-- ==== Sys2Proof/Word.lean ====
section
/-! DEFINITION. The word types of VAXDEC: a byte of memory, a 32-bit address word, and the little-endian value of
a byte list (20_memory R84, R88). -/
namespace Sys2Proof

/-- One byte (20_memory R80). -/
abbrev Byte := BitVec 8

/-- A 32-bit word: an address the block computes, a displacement after its extension, a host register. -/
abbrev Word := BitVec 32

/-- The number of one operand register, `m[3:0]` of a mode byte (00_scope R9: NREGS = 16). -/
abbrev RegNo := BitVec 4

/-- A codepoint: the opcode as one 16-bit number, the first byte high when there are two (20_memory R89). -/
abbrev Codepoint := BitVec 16

end Sys2Proof
end

