-- ==== Sys2Proof/Config.lean ====
section
/-! DEFINITION. The parameters of 00_scope R9 and the values the spec leaves open. The parameters are plain data (they
stand in State as read-only fields, log entry 2); the open values are opaque constants, so that no proof can
know them. -/
namespace Sys2Proof

/-- A descriptor of OPTABLE: mnemonic text and operand-type tags as 4-bit codes, an invalid code included
(10_state R51, R53, R54). -/
structure Descriptor where
  mnemonic : String
  tags     : List (BitVec 4)
deriving DecidableEq, Repr

/-- The parameters a model takes (00_scope R9). `optablePatch` is how far OPTABLE differs from the default rows:
an entry gives its codepoint the descriptor written there, or none; the empty list is the default table
(log entry 2). `indexChainLimit = none` is "unbounded". -/
structure Params where
  memSize         : Nat
  escapeByte      : Byte
  indexChainLimit : Option Nat
  optablePatch    : List (Codepoint × Option Descriptor)
deriving DecidableEq, Repr

namespace Config

/-- The default of ESCAPE_BYTE (00_scope R9). -/
def defaultEscapeByte : Byte := 0xFD

/-- MEM_SIZE of `State.reset`. DESIGN CHOICE (log entry 1): the spec leaves it OPEN in 1 .. 2^32. -/
def resetMemSize : Nat := 2 ^ 32

/-- MAX_OPERANDS with the default table (00_scope R9). -/
def maxOperands : Nat := 6

/-- The parameters of `State.reset`: every default of R9, and MEM_SIZE as in log entry 1. -/
def defaultParams : Params where
  memSize         := resetMemSize
  escapeByte      := defaultEscapeByte
  indexChainLimit := none
  optablePatch    := []

/-- `pc` after the n-th fault: it "has no defined value after a fault" (60_exceptions R306). A free value, log
entry 4; 10_state R48 bounds it, see `State.takeFault`. -/
opaque freePc : Nat → BitVec 33

/-- FAULT_ADDR of a run's fault when the address is 2^32, one more than its 32 bits hold: no rule states the result. A
free value, log entry 5. Its arguments are what a run is over and nothing else (MEM_SIZE, ESCAPE_BYTE,
INDEX_CHAIN_LIMIT, OPTABLE, MEM, CSEG_SIZE), since two runs over the same of these end in the same outcome
(42_decode_loop R250). OPTABLE and MEM are read as the maps they are, from codepoints and from addresses, so that how
the state lists them has no part in the value. -/
opaque freeFaultAddr : (memSize : Nat) → (escapeByte : Byte) → (indexChainLimit : Option Nat) →
  (optable : Codepoint → Option Descriptor) → (mem : Nat → Byte) → (csegSize : BitVec 32) → BitVec 32

end Config

/-- The ranges R9 and 10_state R51 give the parameters: MEM_SIZE in 1 .. 2^32, a finite limit at least 1, at most
MAX_OPERANDS tags in a descriptor, at most one entry per codepoint. -/
abbrev Params.Valid (P : Params) : Prop :=
  1 ≤ P.memSize ∧ P.memSize ≤ 2 ^ 32 ∧ P.indexChainLimit ≠ some 0 ∧
  (P.optablePatch.map Prod.fst).Nodup ∧
  (∀ e ∈ P.optablePatch, ∀ d ∈ e.2, d.tags.length ≤ Config.maxOperands)

end Sys2Proof
end

