-- ==== Sys2Proof/Syntax.lean ====
section
/-! DEFINITION. The syntax of what the block decodes: `Instr`, one constructor per row of spec/opcode_table.json
(rules R1000 to R1252 and R2050 to R2247; a row fixes the opcode bytes alone, its operands are bytes of memory that
its meaning decodes); operand-type tags (10_state R53), general operand specifiers by mode class (30_encoding
R123), operands; and an instruction written out with its operands, which the encoder turns into bytes. -/
namespace Sys2Proof

/-- The operand-type tags (00_scope R10, 10_state R53), in the order of their codes 0 to 10. -/
inductive Tag where
  | byte | word | long | quad | octa | fFloat | dFloat | gFloat | hFloat | bdisp8 | bdisp16
deriving DecidableEq, Repr

/-- The three widths of a displacement field (30_encoding R127). -/
inductive DispWidth where
  | byte | word | long
deriving DecidableEq, Repr

/-- A displacement field as it stands in the instruction, before its extension (30_encoding R127). -/
inductive Disp where
  | byte (d : BitVec 8)
  | word (d : BitVec 16)
  | long (d : BitVec 32)
deriving DecidableEq, Repr

/-- A general operand specifier by mode class (30_encoding R123). The register-15 forms of AUTOINCREMENT,
AUTOINCREMENT_DEFERRED and DISPLACEMENT are other classes (IMMEDIATE, ABSOLUTE, PC_RELATIVE): `wellFormed` refuses
register 15 there. An immediate's value is the unsigned number of its bytes (30_encoding R126, 20_memory R87). -/
inductive Specifier where
  | shortLiteral (value : BitVec 6)
  | indexed (xreg : RegNo) (base : Specifier)
  | register (reg : RegNo)
  | registerDeferred (reg : RegNo)
  | autodecrement (reg : RegNo)
  | autoincrement (reg : RegNo)
  | immediate (value : Nat)
  | autoincrementDeferred (reg : RegNo)
  | absolute (addr : BitVec 32)
  | displacement (reg : RegNo) (disp : Disp) (deferred : Bool)
  | pcRelative (disp : Disp) (deferred : Bool)
deriving DecidableEq, Repr

/-- An operand with the tag it is decoded under: a general specifier or a branch displacement (30_encoding R122). -/
inductive Operand where
  | general (tag : Tag) (sp : Specifier)
  | branch8 (disp : BitVec 8)
  | branch16 (disp : BitVec 16)
deriving DecidableEq, Repr

/-- The instructions: one constructor per row of the default OPTABLE. -/
inductive Instr where
  -- codepoints 0x00 to 0x07: system, trap and return instructions
  | halt | nop | rei | bpt | ret | rsb | ldpctx | svpctx
  -- codepoints 0x08 to 0x0F: decimal string conversion, INDEX, CRC, probe and queue instructions
  | cvtps | cvtsp | index | crc | prober | probew | insque | remque
  -- codepoints 0x10 to 0x1F: byte-displacement branches, JSB and JMP
  | bsbb | brb | bneq | beql | bgtr | bleq | jsb | jmp | bgeq | blss
  | bgtru | blequ | bvc | bvs | bgequ | blssu
  -- codepoints 0x20 to 0x3F: packed decimal, character string, word branches, word conversions, ACBW
  | addp4 | addp6 | subp4 | subp6 | cvtpt | mulp | cvttp | divp | movc3 | cmpc3
  | scanc | spanc | movc5 | cmpc5 | movtc | movtuc | bsbw | brw | cvtwl | cvtwb
  | movp | cmpp3 | cvtpl | cmpp4 | editpc | matchc | locc | skpc | movzwl | acbw
  | movaw | pushaw
  -- codepoints 0x40 to 0x56: F_floating instructions
  | addf2 | addf3 | subf2 | subf3 | mulf2 | mulf3 | divf2 | divf3 | cvtfb | cvtfw
  | cvtfl | cvtrfl | cvtbf | cvtwf | cvtlf | acbf | movf | cmpf | mnegf | tstf
  | emodf | polyf | cvtfd
  -- codepoints 0x57 to 0x5F: ADAWI and interlocked queue instructions
  | adawi | insqhi | insqti | remqhi | remqti
  -- codepoints 0x60 to 0x76: D_floating instructions
  | addd2 | addd3 | subd2 | subd3 | muld2 | muld3 | divd2 | divd3 | cvtdb | cvtdw
  | cvtdl | cvtrdl | cvtbd | cvtwd | cvtld | acbd | movd | cmpd | mnegd | tstd
  | emodd | polyd | cvtdf
  -- codepoints 0x77 to 0x7F: shifts, extended multiply and divide, quadword instructions
  | ashl | ashq | emul | ediv | clrq | movq | movaq | pushaq
  -- codepoints 0x80 to 0x9F: byte integer instructions
  | addb2 | addb3 | subb2 | subb3 | mulb2 | mulb3 | divb2 | divb3 | bisb2 | bisb3
  | bicb2 | bicb3 | xorb2 | xorb3 | mnegb | caseb | movb | cmpb | mcomb | bitb
  | clrb | tstb | incb | decb | cvtbl | cvtbw | movzbl | movzbw | rotl | acbb
  | movab | pushab
  -- codepoints 0xA0 to 0xBF: word integer, PSW, register-mask and change-mode instructions
  | addw2 | addw3 | subw2 | subw3 | mulw2 | mulw3 | divw2 | divw3 | bisw2 | bisw3
  | bicw2 | bicw3 | xorw2 | xorw3 | mnegw | casew | movw | cmpw | mcomw | bitw
  | clrw | tstw | incw | decw | bispsw | bicpsw | popr | pushr | chmk | chme
  | chms | chmu
  -- codepoints 0xC0 to 0xDF: longword integer and processor-register instructions
  | addl2 | addl3 | subl2 | subl3 | mull2 | mull3 | divl2 | divl3 | bisl2 | bisl3
  | bicl2 | bicl3 | xorl2 | xorl3 | mnegl | casel | movl | cmpl | mcoml | bitl
  | clrl | tstl | incl | decl | adwc | sbwc | mtpr | mfpr | movpsl | pushl
  | moval | pushal
  -- codepoints 0xE0 to 0xFF: bit branches, bit fields, loop control, conversions, calls, XFC
  | bbs | bbc | bbss | bbcs | bbsc | bbcc | bbssi | bbcci | blbs | blbc
  | ffs | ffc | cmpv | cmpzv | extv | extzv | insv | acbl | aoblss | aobleq
  | sobgeq | sobgtr | cvtlb | cvtlw | ashp | cvtlp | callg | calls | xfc
  -- codepoints 0xFD00 to 0xFD3F: cross-format conversions to and from G and H
  | cvtdh | cvtgf
  -- codepoints 0xFD40 to 0xFD5F: G_floating instructions
  | addg2 | addg3 | subg2 | subg3 | mulg2 | mulg3 | divg2 | divg3 | cvtgb | cvtgw
  | cvtgl | cvtrgl | cvtbg | cvtwg | cvtlg | acbg | movg | cmpg | mnegg | tstg
  | emodg | polyg | cvtgh
  -- codepoints 0xFD60 to 0xFD7B: H_floating instructions
  | addh2 | addh3 | subh2 | subh3 | mulh2 | mulh3 | divh2 | divh3 | cvthb | cvthw
  | cvthl | cvtrhl | cvtbh | cvtwh | cvtlh | acbh | movh | cmph | mnegh | tsth
  | emodh | polyh | cvthg
  -- codepoints 0xFD7C to 0xFD7F: octaword instructions
  | clro | movo | movao | pushao
  -- codepoints 0xFD80 to 0xFDFF: conversions from F and H
  | cvtfh | cvtfg | cvthf | cvthd
deriving DecidableEq, Repr

/-- An instruction written out with its operands (30_encoding R120). -/
structure AsmInstr where
  instr    : Instr
  operands : List Operand
deriving DecidableEq, Repr

end Sys2Proof
end

