-- ==== Sys2Proof/Machine/Tags.lean ====
section
/-! DEFINITION. Codes and widths of the operand-type tags (10_state R53), the fields and classes of a mode byte
(30_encoding R123), and the byte-order, bit-field and extension helpers that decoding uses. -/
namespace Sys2Proof

/-- The 4-bit code of a tag (10_state R53). -/
def Tag.code : Tag → BitVec 4
  | .byte => 0 | .word => 1 | .long => 2 | .quad => 3 | .octa => 4
  | .fFloat => 5 | .dFloat => 6 | .gFloat => 7 | .hFloat => 8
  | .bdisp8 => 9 | .bdisp16 => 10

/-- The tag of a code; the codes 11 to 15 are invalid (10_state R53, R54). -/
def Tag.ofCode (c : BitVec 4) : Option Tag :=
  match c.toNat with
  | 0 => some .byte | 1 => some .word | 2 => some .long | 3 => some .quad | 4 => some .octa
  | 5 => some .fFloat | 6 => some .dFloat | 7 => some .gFloat | 8 => some .hFloat
  | 9 => some .bdisp8 | 10 => some .bdisp16
  | _ => none

/-- The defined width W(t) of a tag in bytes (41_operand_modes R191). -/
def Tag.width : Tag → Nat
  | .byte => 1 | .word => 2 | .long => 4 | .quad => 8 | .octa => 16
  | .fFloat => 4 | .dFloat => 8 | .gFloat => 8 | .hFloat => 16
  | .bdisp8 => 1 | .bdisp16 => 2

/-- The nine general tags, as against the two branch tags (30_encoding R122). -/
def Tag.isGeneral : Tag → Bool
  | .bdisp8 => false | .bdisp16 => false | _ => true

/-- The tag an operand is decoded under. -/
def Operand.tag : Operand → Tag
  | .general t _ => t
  | .branch8 _ => .bdisp8
  | .branch16 _ => .bdisp16

/-- The width of a displacement field in bytes (30_encoding R127). -/
def DispWidth.bytes : DispWidth → Nat
  | .byte => 1 | .word => 2 | .long => 4

/-- The field width of a displacement. -/
def Disp.width : Disp → DispWidth
  | .byte _ => .byte | .word _ => .word | .long _ => .long

/-- `sext_32` of a displacement field (30_encoding R127); the identity on a longword. -/
def Disp.sext : Disp → Word
  | .byte d => d.signExtend 32
  | .word d => d.signExtend 32
  | .long d => d

/-- The mode classes of 30_encoding R123. -/
inductive ModeClass where
  | shortLiteral | indexed | register | registerDeferred | autodecrement | autoincrement
  | immediate | autoincrementDeferred | absolute
  | displacement (w : DispWidth) (deferred : Bool)
  | pcRelative (w : DispWidth) (deferred : Bool)
deriving DecidableEq, Repr

/-- The mode nibble `m[7:4]` (00_scope R11). -/
def modeNibble (m : Byte) : BitVec 4 := m.extractLsb' 4 4

/-- The register nibble `m[3:0]` (00_scope R11, 30_encoding R129). -/
def regNibble (m : Byte) : RegNo := m.extractLsb' 0 4

/-- The class of a displacement mode nibble: register 15 makes it PC_RELATIVE. -/
def dispClass (w : DispWidth) (deferred : Bool) (r : RegNo) : ModeClass :=
  if r = 15 then .pcRelative w deferred else .displacement w deferred

/-- The one class a mode byte falls into; total over 0x00 to 0xFF (30_encoding R123, R136). -/
def modeClass (m : Byte) : ModeClass :=
  let r := regNibble m
  match (modeNibble m).toNat with
  | 0 | 1 | 2 | 3 => .shortLiteral
  | 4 => .indexed
  | 5 => .register
  | 6 => .registerDeferred
  | 7 => .autodecrement
  | 8 => if r = 15 then .immediate else .autoincrement
  | 9 => if r = 15 then .absolute else .autoincrementDeferred
  | 10 => dispClass .byte false r
  | 11 => dispClass .byte true r
  | 12 => dispClass .word false r
  | 13 => dispClass .word true r
  | 14 => dispClass .long false r
  | _ => dispClass .long true r

/-- The mode byte with the given mode and register nibbles. -/
def modeByte (mode : BitVec 4) (r : RegNo) : Byte := mode ++ r

/-- The low `n` bytes of `v`, least significant first (20_memory R84, R88). -/
def leBytes : (n v : Nat) → List Byte
  | 0, _ => []
  | n + 1, v => BitVec.ofNat 8 v :: leBytes n (v / 256)

/-- The unsigned number of a byte list, least significant byte first (20_memory R84). -/
def leValue : List Byte → Nat
  | [] => 0
  | b :: bs => b.toNat + 256 * leValue bs

/-- `depth` index bytes read already are as many as a finite INDEX_CHAIN_LIMIT allows (41_operand_modes R194,
R195). -/
def chainFull (limit : Option Nat) (depth : Nat) : Bool :=
  match limit with
  | none => false
  | some l => decide (l ≤ depth)

end Sys2Proof
end

