-- ==== Sys2Proof/Machine/OpTable.lean ====
section
/-! DEFINITION. The default OPTABLE (10_state R51; rows R1000 to R1252 and R2050 to R2247): each row's codepoint,
mnemonic and tags, and the constructor of `Instr` it stands for; and, back from an instruction, its codepoint,
mnemonic and tags. The rows are the spec's own default, which it marks as general knowledge (D2). -/
namespace Sys2Proof

/-- A row of the default table. -/
structure OpRow where
  cp       : Codepoint
  mnemonic : String
  tags     : List Tag
  instr    : Instr

/-- The opcode width of a codepoint of the default table: 1 below 256, else 2 (40_opcode_fetch R172, R178). -/
def opcodeWidth (cp : Codepoint) : Nat := if cp.toNat < 256 then 1 else 2

/-- The row as a descriptor of OPTABLE (10_state R51, R53). -/
def OpRow.descriptor (r : OpRow) : Descriptor := ⟨r.mnemonic, r.tags.map Tag.code⟩

/-- Codepoints 0x00 to 0x07: system, trap and return instructions. -/
def rowsSystemReturn : List OpRow := [
  ⟨0x00, "HALT", [], .halt⟩,
  ⟨0x01, "NOP", [], .nop⟩,
  ⟨0x02, "REI", [], .rei⟩,
  ⟨0x03, "BPT", [], .bpt⟩,
  ⟨0x04, "RET", [], .ret⟩,
  ⟨0x05, "RSB", [], .rsb⟩,
  ⟨0x06, "LDPCTX", [], .ldpctx⟩,
  ⟨0x07, "SVPCTX", [], .svpctx⟩]

/-- Codepoints 0x08 to 0x0F: decimal string conversion, INDEX, CRC, probe and queue instructions. -/
def rowsDecimalQueue : List OpRow := [
  ⟨0x08, "CVTPS", [.word, .byte, .word, .byte], .cvtps⟩,
  ⟨0x09, "CVTSP", [.word, .byte, .word, .byte], .cvtsp⟩,
  ⟨0x0A, "INDEX", [.long, .long, .long, .long, .long, .long], .index⟩,
  ⟨0x0B, "CRC", [.byte, .long, .word, .byte], .crc⟩,
  ⟨0x0C, "PROBER", [.byte, .word, .byte], .prober⟩,
  ⟨0x0D, "PROBEW", [.byte, .word, .byte], .probew⟩,
  ⟨0x0E, "INSQUE", [.byte, .byte], .insque⟩,
  ⟨0x0F, "REMQUE", [.byte, .long], .remque⟩]

/-- Codepoints 0x10 to 0x1F: byte-displacement branches, JSB and JMP. -/
def rowsByteBranch : List OpRow := [
  ⟨0x10, "BSBB", [.bdisp8], .bsbb⟩,
  ⟨0x11, "BRB", [.bdisp8], .brb⟩,
  ⟨0x12, "BNEQ", [.bdisp8], .bneq⟩,
  ⟨0x13, "BEQL", [.bdisp8], .beql⟩,
  ⟨0x14, "BGTR", [.bdisp8], .bgtr⟩,
  ⟨0x15, "BLEQ", [.bdisp8], .bleq⟩,
  ⟨0x16, "JSB", [.byte], .jsb⟩,
  ⟨0x17, "JMP", [.byte], .jmp⟩,
  ⟨0x18, "BGEQ", [.bdisp8], .bgeq⟩,
  ⟨0x19, "BLSS", [.bdisp8], .blss⟩,
  ⟨0x1A, "BGTRU", [.bdisp8], .bgtru⟩,
  ⟨0x1B, "BLEQU", [.bdisp8], .blequ⟩,
  ⟨0x1C, "BVC", [.bdisp8], .bvc⟩,
  ⟨0x1D, "BVS", [.bdisp8], .bvs⟩,
  ⟨0x1E, "BGEQU", [.bdisp8], .bgequ⟩,
  ⟨0x1F, "BLSSU", [.bdisp8], .blssu⟩]

/-- Codepoints 0x20 to 0x3F: packed decimal, character string, word branches, word conversions, ACBW. -/
def rowsPackedString : List OpRow := [
  ⟨0x20, "ADDP4", [.word, .byte, .word, .byte], .addp4⟩,
  ⟨0x21, "ADDP6", [.word, .byte, .word, .byte, .word, .byte], .addp6⟩,
  ⟨0x22, "SUBP4", [.word, .byte, .word, .byte], .subp4⟩,
  ⟨0x23, "SUBP6", [.word, .byte, .word, .byte, .word, .byte], .subp6⟩,
  ⟨0x24, "CVTPT", [.word, .byte, .byte, .word, .byte], .cvtpt⟩,
  ⟨0x25, "MULP", [.word, .byte, .word, .byte, .word, .byte], .mulp⟩,
  ⟨0x26, "CVTTP", [.word, .byte, .byte, .word, .byte], .cvttp⟩,
  ⟨0x27, "DIVP", [.word, .byte, .word, .byte, .word, .byte], .divp⟩,
  ⟨0x28, "MOVC3", [.word, .byte, .byte], .movc3⟩,
  ⟨0x29, "CMPC3", [.word, .byte, .byte], .cmpc3⟩,
  ⟨0x2A, "SCANC", [.word, .byte, .byte, .byte], .scanc⟩,
  ⟨0x2B, "SPANC", [.word, .byte, .byte, .byte], .spanc⟩,
  ⟨0x2C, "MOVC5", [.word, .byte, .byte, .word, .byte], .movc5⟩,
  ⟨0x2D, "CMPC5", [.word, .byte, .byte, .word, .byte], .cmpc5⟩,
  ⟨0x2E, "MOVTC", [.word, .byte, .byte, .byte, .word, .byte], .movtc⟩,
  ⟨0x2F, "MOVTUC", [.word, .byte, .byte, .byte, .word, .byte], .movtuc⟩,
  ⟨0x30, "BSBW", [.bdisp16], .bsbw⟩,
  ⟨0x31, "BRW", [.bdisp16], .brw⟩,
  ⟨0x32, "CVTWL", [.word, .long], .cvtwl⟩,
  ⟨0x33, "CVTWB", [.word, .byte], .cvtwb⟩,
  ⟨0x34, "MOVP", [.word, .byte, .byte], .movp⟩,
  ⟨0x35, "CMPP3", [.word, .byte, .byte], .cmpp3⟩,
  ⟨0x36, "CVTPL", [.word, .byte, .long], .cvtpl⟩,
  ⟨0x37, "CMPP4", [.word, .byte, .word, .byte], .cmpp4⟩,
  ⟨0x38, "EDITPC", [.word, .byte, .byte, .byte], .editpc⟩,
  ⟨0x39, "MATCHC", [.word, .byte, .word, .byte], .matchc⟩,
  ⟨0x3A, "LOCC", [.byte, .word, .byte], .locc⟩,
  ⟨0x3B, "SKPC", [.byte, .word, .byte], .skpc⟩,
  ⟨0x3C, "MOVZWL", [.word, .long], .movzwl⟩,
  ⟨0x3D, "ACBW", [.word, .word, .word, .bdisp16], .acbw⟩,
  ⟨0x3E, "MOVAW", [.word, .long], .movaw⟩,
  ⟨0x3F, "PUSHAW", [.word], .pushaw⟩]

/-- Codepoints 0x40 to 0x56: F_floating instructions. -/
def rowsFFloating : List OpRow := [
  ⟨0x40, "ADDF2", [.fFloat, .fFloat], .addf2⟩,
  ⟨0x41, "ADDF3", [.fFloat, .fFloat, .fFloat], .addf3⟩,
  ⟨0x42, "SUBF2", [.fFloat, .fFloat], .subf2⟩,
  ⟨0x43, "SUBF3", [.fFloat, .fFloat, .fFloat], .subf3⟩,
  ⟨0x44, "MULF2", [.fFloat, .fFloat], .mulf2⟩,
  ⟨0x45, "MULF3", [.fFloat, .fFloat, .fFloat], .mulf3⟩,
  ⟨0x46, "DIVF2", [.fFloat, .fFloat], .divf2⟩,
  ⟨0x47, "DIVF3", [.fFloat, .fFloat, .fFloat], .divf3⟩,
  ⟨0x48, "CVTFB", [.fFloat, .byte], .cvtfb⟩,
  ⟨0x49, "CVTFW", [.fFloat, .word], .cvtfw⟩,
  ⟨0x4A, "CVTFL", [.fFloat, .long], .cvtfl⟩,
  ⟨0x4B, "CVTRFL", [.fFloat, .long], .cvtrfl⟩,
  ⟨0x4C, "CVTBF", [.byte, .fFloat], .cvtbf⟩,
  ⟨0x4D, "CVTWF", [.word, .fFloat], .cvtwf⟩,
  ⟨0x4E, "CVTLF", [.long, .fFloat], .cvtlf⟩,
  ⟨0x4F, "ACBF", [.fFloat, .fFloat, .fFloat, .bdisp16], .acbf⟩,
  ⟨0x50, "MOVF", [.fFloat, .fFloat], .movf⟩,
  ⟨0x51, "CMPF", [.fFloat, .fFloat], .cmpf⟩,
  ⟨0x52, "MNEGF", [.fFloat, .fFloat], .mnegf⟩,
  ⟨0x53, "TSTF", [.fFloat], .tstf⟩,
  ⟨0x54, "EMODF", [.fFloat, .byte, .fFloat, .long, .fFloat], .emodf⟩,
  ⟨0x55, "POLYF", [.fFloat, .word, .byte], .polyf⟩,
  ⟨0x56, "CVTFD", [.fFloat, .dFloat], .cvtfd⟩]

/-- Codepoints 0x57 to 0x5F: ADAWI and interlocked queue instructions. -/
def rowsInterlockedQueue : List OpRow := [
  ⟨0x58, "ADAWI", [.word, .word], .adawi⟩,
  ⟨0x5C, "INSQHI", [.byte, .quad], .insqhi⟩,
  ⟨0x5D, "INSQTI", [.byte, .quad], .insqti⟩,
  ⟨0x5E, "REMQHI", [.quad, .long], .remqhi⟩,
  ⟨0x5F, "REMQTI", [.quad, .long], .remqti⟩]

/-- Codepoints 0x60 to 0x76: D_floating instructions. -/
def rowsDFloating : List OpRow := [
  ⟨0x60, "ADDD2", [.dFloat, .dFloat], .addd2⟩,
  ⟨0x61, "ADDD3", [.dFloat, .dFloat, .dFloat], .addd3⟩,
  ⟨0x62, "SUBD2", [.dFloat, .dFloat], .subd2⟩,
  ⟨0x63, "SUBD3", [.dFloat, .dFloat, .dFloat], .subd3⟩,
  ⟨0x64, "MULD2", [.dFloat, .dFloat], .muld2⟩,
  ⟨0x65, "MULD3", [.dFloat, .dFloat, .dFloat], .muld3⟩,
  ⟨0x66, "DIVD2", [.dFloat, .dFloat], .divd2⟩,
  ⟨0x67, "DIVD3", [.dFloat, .dFloat, .dFloat], .divd3⟩,
  ⟨0x68, "CVTDB", [.dFloat, .byte], .cvtdb⟩,
  ⟨0x69, "CVTDW", [.dFloat, .word], .cvtdw⟩,
  ⟨0x6A, "CVTDL", [.dFloat, .long], .cvtdl⟩,
  ⟨0x6B, "CVTRDL", [.dFloat, .long], .cvtrdl⟩,
  ⟨0x6C, "CVTBD", [.byte, .dFloat], .cvtbd⟩,
  ⟨0x6D, "CVTWD", [.word, .dFloat], .cvtwd⟩,
  ⟨0x6E, "CVTLD", [.long, .dFloat], .cvtld⟩,
  ⟨0x6F, "ACBD", [.dFloat, .dFloat, .dFloat, .bdisp16], .acbd⟩,
  ⟨0x70, "MOVD", [.dFloat, .dFloat], .movd⟩,
  ⟨0x71, "CMPD", [.dFloat, .dFloat], .cmpd⟩,
  ⟨0x72, "MNEGD", [.dFloat, .dFloat], .mnegd⟩,
  ⟨0x73, "TSTD", [.dFloat], .tstd⟩,
  ⟨0x74, "EMODD", [.dFloat, .byte, .dFloat, .long, .dFloat], .emodd⟩,
  ⟨0x75, "POLYD", [.dFloat, .word, .byte], .polyd⟩,
  ⟨0x76, "CVTDF", [.dFloat, .fFloat], .cvtdf⟩]

/-- Codepoints 0x77 to 0x7F: shifts, extended multiply and divide, quadword instructions. -/
def rowsShiftQuad : List OpRow := [
  ⟨0x78, "ASHL", [.byte, .long, .long], .ashl⟩,
  ⟨0x79, "ASHQ", [.byte, .quad, .quad], .ashq⟩,
  ⟨0x7A, "EMUL", [.long, .long, .long, .quad], .emul⟩,
  ⟨0x7B, "EDIV", [.long, .quad, .long, .long], .ediv⟩,
  ⟨0x7C, "CLRQ", [.quad], .clrq⟩,
  ⟨0x7D, "MOVQ", [.quad, .quad], .movq⟩,
  ⟨0x7E, "MOVAQ", [.quad, .long], .movaq⟩,
  ⟨0x7F, "PUSHAQ", [.quad], .pushaq⟩]

/-- Codepoints 0x80 to 0x9F: byte integer instructions. -/
def rowsByteInteger : List OpRow := [
  ⟨0x80, "ADDB2", [.byte, .byte], .addb2⟩,
  ⟨0x81, "ADDB3", [.byte, .byte, .byte], .addb3⟩,
  ⟨0x82, "SUBB2", [.byte, .byte], .subb2⟩,
  ⟨0x83, "SUBB3", [.byte, .byte, .byte], .subb3⟩,
  ⟨0x84, "MULB2", [.byte, .byte], .mulb2⟩,
  ⟨0x85, "MULB3", [.byte, .byte, .byte], .mulb3⟩,
  ⟨0x86, "DIVB2", [.byte, .byte], .divb2⟩,
  ⟨0x87, "DIVB3", [.byte, .byte, .byte], .divb3⟩,
  ⟨0x88, "BISB2", [.byte, .byte], .bisb2⟩,
  ⟨0x89, "BISB3", [.byte, .byte, .byte], .bisb3⟩,
  ⟨0x8A, "BICB2", [.byte, .byte], .bicb2⟩,
  ⟨0x8B, "BICB3", [.byte, .byte, .byte], .bicb3⟩,
  ⟨0x8C, "XORB2", [.byte, .byte], .xorb2⟩,
  ⟨0x8D, "XORB3", [.byte, .byte, .byte], .xorb3⟩,
  ⟨0x8E, "MNEGB", [.byte, .byte], .mnegb⟩,
  ⟨0x8F, "CASEB", [.byte, .byte, .byte], .caseb⟩,
  ⟨0x90, "MOVB", [.byte, .byte], .movb⟩,
  ⟨0x91, "CMPB", [.byte, .byte], .cmpb⟩,
  ⟨0x92, "MCOMB", [.byte, .byte], .mcomb⟩,
  ⟨0x93, "BITB", [.byte, .byte], .bitb⟩,
  ⟨0x94, "CLRB", [.byte], .clrb⟩,
  ⟨0x95, "TSTB", [.byte], .tstb⟩,
  ⟨0x96, "INCB", [.byte], .incb⟩,
  ⟨0x97, "DECB", [.byte], .decb⟩,
  ⟨0x98, "CVTBL", [.byte, .long], .cvtbl⟩,
  ⟨0x99, "CVTBW", [.byte, .word], .cvtbw⟩,
  ⟨0x9A, "MOVZBL", [.byte, .long], .movzbl⟩,
  ⟨0x9B, "MOVZBW", [.byte, .word], .movzbw⟩,
  ⟨0x9C, "ROTL", [.byte, .long, .long], .rotl⟩,
  ⟨0x9D, "ACBB", [.byte, .byte, .byte, .bdisp16], .acbb⟩,
  ⟨0x9E, "MOVAB", [.byte, .long], .movab⟩,
  ⟨0x9F, "PUSHAB", [.byte], .pushab⟩]

/-- Codepoints 0xA0 to 0xBF: word integer, PSW, register-mask and change-mode instructions. -/
def rowsWordInteger : List OpRow := [
  ⟨0xA0, "ADDW2", [.word, .word], .addw2⟩,
  ⟨0xA1, "ADDW3", [.word, .word, .word], .addw3⟩,
  ⟨0xA2, "SUBW2", [.word, .word], .subw2⟩,
  ⟨0xA3, "SUBW3", [.word, .word, .word], .subw3⟩,
  ⟨0xA4, "MULW2", [.word, .word], .mulw2⟩,
  ⟨0xA5, "MULW3", [.word, .word, .word], .mulw3⟩,
  ⟨0xA6, "DIVW2", [.word, .word], .divw2⟩,
  ⟨0xA7, "DIVW3", [.word, .word, .word], .divw3⟩,
  ⟨0xA8, "BISW2", [.word, .word], .bisw2⟩,
  ⟨0xA9, "BISW3", [.word, .word, .word], .bisw3⟩,
  ⟨0xAA, "BICW2", [.word, .word], .bicw2⟩,
  ⟨0xAB, "BICW3", [.word, .word, .word], .bicw3⟩,
  ⟨0xAC, "XORW2", [.word, .word], .xorw2⟩,
  ⟨0xAD, "XORW3", [.word, .word, .word], .xorw3⟩,
  ⟨0xAE, "MNEGW", [.word, .word], .mnegw⟩,
  ⟨0xAF, "CASEW", [.word, .word, .word], .casew⟩,
  ⟨0xB0, "MOVW", [.word, .word], .movw⟩,
  ⟨0xB1, "CMPW", [.word, .word], .cmpw⟩,
  ⟨0xB2, "MCOMW", [.word, .word], .mcomw⟩,
  ⟨0xB3, "BITW", [.word, .word], .bitw⟩,
  ⟨0xB4, "CLRW", [.word], .clrw⟩,
  ⟨0xB5, "TSTW", [.word], .tstw⟩,
  ⟨0xB6, "INCW", [.word], .incw⟩,
  ⟨0xB7, "DECW", [.word], .decw⟩,
  ⟨0xB8, "BISPSW", [.word], .bispsw⟩,
  ⟨0xB9, "BICPSW", [.word], .bicpsw⟩,
  ⟨0xBA, "POPR", [.word], .popr⟩,
  ⟨0xBB, "PUSHR", [.word], .pushr⟩,
  ⟨0xBC, "CHMK", [.word], .chmk⟩,
  ⟨0xBD, "CHME", [.word], .chme⟩,
  ⟨0xBE, "CHMS", [.word], .chms⟩,
  ⟨0xBF, "CHMU", [.word], .chmu⟩]

/-- Codepoints 0xC0 to 0xDF: longword integer and processor-register instructions. -/
def rowsLongInteger : List OpRow := [
  ⟨0xC0, "ADDL2", [.long, .long], .addl2⟩,
  ⟨0xC1, "ADDL3", [.long, .long, .long], .addl3⟩,
  ⟨0xC2, "SUBL2", [.long, .long], .subl2⟩,
  ⟨0xC3, "SUBL3", [.long, .long, .long], .subl3⟩,
  ⟨0xC4, "MULL2", [.long, .long], .mull2⟩,
  ⟨0xC5, "MULL3", [.long, .long, .long], .mull3⟩,
  ⟨0xC6, "DIVL2", [.long, .long], .divl2⟩,
  ⟨0xC7, "DIVL3", [.long, .long, .long], .divl3⟩,
  ⟨0xC8, "BISL2", [.long, .long], .bisl2⟩,
  ⟨0xC9, "BISL3", [.long, .long, .long], .bisl3⟩,
  ⟨0xCA, "BICL2", [.long, .long], .bicl2⟩,
  ⟨0xCB, "BICL3", [.long, .long, .long], .bicl3⟩,
  ⟨0xCC, "XORL2", [.long, .long], .xorl2⟩,
  ⟨0xCD, "XORL3", [.long, .long, .long], .xorl3⟩,
  ⟨0xCE, "MNEGL", [.long, .long], .mnegl⟩,
  ⟨0xCF, "CASEL", [.long, .long, .long], .casel⟩,
  ⟨0xD0, "MOVL", [.long, .long], .movl⟩,
  ⟨0xD1, "CMPL", [.long, .long], .cmpl⟩,
  ⟨0xD2, "MCOML", [.long, .long], .mcoml⟩,
  ⟨0xD3, "BITL", [.long, .long], .bitl⟩,
  ⟨0xD4, "CLRL", [.long], .clrl⟩,
  ⟨0xD5, "TSTL", [.long], .tstl⟩,
  ⟨0xD6, "INCL", [.long], .incl⟩,
  ⟨0xD7, "DECL", [.long], .decl⟩,
  ⟨0xD8, "ADWC", [.long, .long], .adwc⟩,
  ⟨0xD9, "SBWC", [.long, .long], .sbwc⟩,
  ⟨0xDA, "MTPR", [.long, .long], .mtpr⟩,
  ⟨0xDB, "MFPR", [.long, .long], .mfpr⟩,
  ⟨0xDC, "MOVPSL", [.long], .movpsl⟩,
  ⟨0xDD, "PUSHL", [.long], .pushl⟩,
  ⟨0xDE, "MOVAL", [.long, .long], .moval⟩,
  ⟨0xDF, "PUSHAL", [.long], .pushal⟩]

/-- Codepoints 0xE0 to 0xFF: bit branches, bit fields, loop control, conversions, calls, XFC. -/
def rowsBitFieldCall : List OpRow := [
  ⟨0xE0, "BBS", [.long, .byte, .bdisp8], .bbs⟩,
  ⟨0xE1, "BBC", [.long, .byte, .bdisp8], .bbc⟩,
  ⟨0xE2, "BBSS", [.long, .byte, .bdisp8], .bbss⟩,
  ⟨0xE3, "BBCS", [.long, .byte, .bdisp8], .bbcs⟩,
  ⟨0xE4, "BBSC", [.long, .byte, .bdisp8], .bbsc⟩,
  ⟨0xE5, "BBCC", [.long, .byte, .bdisp8], .bbcc⟩,
  ⟨0xE6, "BBSSI", [.long, .byte, .bdisp8], .bbssi⟩,
  ⟨0xE7, "BBCCI", [.long, .byte, .bdisp8], .bbcci⟩,
  ⟨0xE8, "BLBS", [.long, .bdisp8], .blbs⟩,
  ⟨0xE9, "BLBC", [.long, .bdisp8], .blbc⟩,
  ⟨0xEA, "FFS", [.long, .byte, .byte, .long], .ffs⟩,
  ⟨0xEB, "FFC", [.long, .byte, .byte, .long], .ffc⟩,
  ⟨0xEC, "CMPV", [.long, .byte, .byte, .long], .cmpv⟩,
  ⟨0xED, "CMPZV", [.long, .byte, .byte, .long], .cmpzv⟩,
  ⟨0xEE, "EXTV", [.long, .byte, .byte, .long], .extv⟩,
  ⟨0xEF, "EXTZV", [.long, .byte, .byte, .long], .extzv⟩,
  ⟨0xF0, "INSV", [.long, .long, .byte, .byte], .insv⟩,
  ⟨0xF1, "ACBL", [.long, .long, .long, .bdisp16], .acbl⟩,
  ⟨0xF2, "AOBLSS", [.long, .long, .bdisp8], .aoblss⟩,
  ⟨0xF3, "AOBLEQ", [.long, .long, .bdisp8], .aobleq⟩,
  ⟨0xF4, "SOBGEQ", [.long, .bdisp8], .sobgeq⟩,
  ⟨0xF5, "SOBGTR", [.long, .bdisp8], .sobgtr⟩,
  ⟨0xF6, "CVTLB", [.long, .byte], .cvtlb⟩,
  ⟨0xF7, "CVTLW", [.long, .word], .cvtlw⟩,
  ⟨0xF8, "ASHP", [.byte, .word, .byte, .byte, .word, .byte], .ashp⟩,
  ⟨0xF9, "CVTLP", [.long, .word, .byte], .cvtlp⟩,
  ⟨0xFA, "CALLG", [.byte, .byte], .callg⟩,
  ⟨0xFB, "CALLS", [.long, .byte], .calls⟩,
  ⟨0xFC, "XFC", [], .xfc⟩]

/-- Codepoints 0xFD00 to 0xFD3F: cross-format conversions to and from G and H. -/
def rowsCrossGH : List OpRow := [
  ⟨0xFD32, "CVTDH", [.dFloat, .hFloat], .cvtdh⟩,
  ⟨0xFD33, "CVTGF", [.gFloat, .fFloat], .cvtgf⟩]

/-- Codepoints 0xFD40 to 0xFD5F: G_floating instructions. -/
def rowsGFloating : List OpRow := [
  ⟨0xFD40, "ADDG2", [.gFloat, .gFloat], .addg2⟩,
  ⟨0xFD41, "ADDG3", [.gFloat, .gFloat, .gFloat], .addg3⟩,
  ⟨0xFD42, "SUBG2", [.gFloat, .gFloat], .subg2⟩,
  ⟨0xFD43, "SUBG3", [.gFloat, .gFloat, .gFloat], .subg3⟩,
  ⟨0xFD44, "MULG2", [.gFloat, .gFloat], .mulg2⟩,
  ⟨0xFD45, "MULG3", [.gFloat, .gFloat, .gFloat], .mulg3⟩,
  ⟨0xFD46, "DIVG2", [.gFloat, .gFloat], .divg2⟩,
  ⟨0xFD47, "DIVG3", [.gFloat, .gFloat, .gFloat], .divg3⟩,
  ⟨0xFD48, "CVTGB", [.gFloat, .byte], .cvtgb⟩,
  ⟨0xFD49, "CVTGW", [.gFloat, .word], .cvtgw⟩,
  ⟨0xFD4A, "CVTGL", [.gFloat, .long], .cvtgl⟩,
  ⟨0xFD4B, "CVTRGL", [.gFloat, .long], .cvtrgl⟩,
  ⟨0xFD4C, "CVTBG", [.byte, .gFloat], .cvtbg⟩,
  ⟨0xFD4D, "CVTWG", [.word, .gFloat], .cvtwg⟩,
  ⟨0xFD4E, "CVTLG", [.long, .gFloat], .cvtlg⟩,
  ⟨0xFD4F, "ACBG", [.gFloat, .gFloat, .gFloat, .bdisp16], .acbg⟩,
  ⟨0xFD50, "MOVG", [.gFloat, .gFloat], .movg⟩,
  ⟨0xFD51, "CMPG", [.gFloat, .gFloat], .cmpg⟩,
  ⟨0xFD52, "MNEGG", [.gFloat, .gFloat], .mnegg⟩,
  ⟨0xFD53, "TSTG", [.gFloat], .tstg⟩,
  ⟨0xFD54, "EMODG", [.gFloat, .word, .gFloat, .long, .gFloat], .emodg⟩,
  ⟨0xFD55, "POLYG", [.gFloat, .word, .byte], .polyg⟩,
  ⟨0xFD56, "CVTGH", [.gFloat, .hFloat], .cvtgh⟩]

/-- Codepoints 0xFD60 to 0xFD7B: H_floating instructions. -/
def rowsHFloating : List OpRow := [
  ⟨0xFD60, "ADDH2", [.hFloat, .hFloat], .addh2⟩,
  ⟨0xFD61, "ADDH3", [.hFloat, .hFloat, .hFloat], .addh3⟩,
  ⟨0xFD62, "SUBH2", [.hFloat, .hFloat], .subh2⟩,
  ⟨0xFD63, "SUBH3", [.hFloat, .hFloat, .hFloat], .subh3⟩,
  ⟨0xFD64, "MULH2", [.hFloat, .hFloat], .mulh2⟩,
  ⟨0xFD65, "MULH3", [.hFloat, .hFloat, .hFloat], .mulh3⟩,
  ⟨0xFD66, "DIVH2", [.hFloat, .hFloat], .divh2⟩,
  ⟨0xFD67, "DIVH3", [.hFloat, .hFloat, .hFloat], .divh3⟩,
  ⟨0xFD68, "CVTHB", [.hFloat, .byte], .cvthb⟩,
  ⟨0xFD69, "CVTHW", [.hFloat, .word], .cvthw⟩,
  ⟨0xFD6A, "CVTHL", [.hFloat, .long], .cvthl⟩,
  ⟨0xFD6B, "CVTRHL", [.hFloat, .long], .cvtrhl⟩,
  ⟨0xFD6C, "CVTBH", [.byte, .hFloat], .cvtbh⟩,
  ⟨0xFD6D, "CVTWH", [.word, .hFloat], .cvtwh⟩,
  ⟨0xFD6E, "CVTLH", [.long, .hFloat], .cvtlh⟩,
  ⟨0xFD6F, "ACBH", [.hFloat, .hFloat, .hFloat, .bdisp16], .acbh⟩,
  ⟨0xFD70, "MOVH", [.hFloat, .hFloat], .movh⟩,
  ⟨0xFD71, "CMPH", [.hFloat, .hFloat], .cmph⟩,
  ⟨0xFD72, "MNEGH", [.hFloat, .hFloat], .mnegh⟩,
  ⟨0xFD73, "TSTH", [.hFloat], .tsth⟩,
  ⟨0xFD74, "EMODH", [.hFloat, .word, .hFloat, .long, .hFloat], .emodh⟩,
  ⟨0xFD75, "POLYH", [.hFloat, .word, .byte], .polyh⟩,
  ⟨0xFD76, "CVTHG", [.hFloat, .gFloat], .cvthg⟩]

/-- Codepoints 0xFD7C to 0xFD7F: octaword instructions. -/
def rowsOctaword : List OpRow := [
  ⟨0xFD7C, "CLRO", [.octa], .clro⟩,
  ⟨0xFD7D, "MOVO", [.octa, .octa], .movo⟩,
  ⟨0xFD7E, "MOVAO", [.octa, .long], .movao⟩,
  ⟨0xFD7F, "PUSHAO", [.octa], .pushao⟩]

/-- Codepoints 0xFD80 to 0xFDFF: conversions from F and H. -/
def rowsCrossFH : List OpRow := [
  ⟨0xFD98, "CVTFH", [.fFloat, .hFloat], .cvtfh⟩,
  ⟨0xFD99, "CVTFG", [.fFloat, .gFloat], .cvtfg⟩,
  ⟨0xFDF6, "CVTHF", [.hFloat, .fFloat], .cvthf⟩,
  ⟨0xFDF7, "CVTHD", [.hFloat, .dFloat], .cvthd⟩]

/-- The default table by families, in codepoint order. -/
def familyRows : List (List OpRow) := [
  rowsSystemReturn,
  rowsDecimalQueue,
  rowsByteBranch,
  rowsPackedString,
  rowsFFloating,
  rowsInterlockedQueue,
  rowsDFloating,
  rowsShiftQuad,
  rowsByteInteger,
  rowsWordInteger,
  rowsLongInteger,
  rowsBitFieldCall,
  rowsCrossGH,
  rowsGFloating,
  rowsHFloating,
  rowsOctaword,
  rowsCrossFH]

/-- The default table, in codepoint order. -/
def opRows : List OpRow := familyRows.flatten

/-- The default row of a codepoint, if it has one (10_state R52: at most one). -/
def findRow (cp : Codepoint) : Option OpRow :=
  familyRows.findSome? (fun rows => rows.find? (fun r => r.cp == cp))

/-- The codepoint of an instruction: its row of 44, 45 or 46. -/
def Instr.codepoint : Instr → Codepoint
  | .halt => 0x00
  | .nop => 0x01
  | .rei => 0x02
  | .bpt => 0x03
  | .ret => 0x04
  | .rsb => 0x05
  | .ldpctx => 0x06
  | .svpctx => 0x07
  | .cvtps => 0x08
  | .cvtsp => 0x09
  | .index => 0x0A
  | .crc => 0x0B
  | .prober => 0x0C
  | .probew => 0x0D
  | .insque => 0x0E
  | .remque => 0x0F
  | .bsbb => 0x10
  | .brb => 0x11
  | .bneq => 0x12
  | .beql => 0x13
  | .bgtr => 0x14
  | .bleq => 0x15
  | .jsb => 0x16
  | .jmp => 0x17
  | .bgeq => 0x18
  | .blss => 0x19
  | .bgtru => 0x1A
  | .blequ => 0x1B
  | .bvc => 0x1C
  | .bvs => 0x1D
  | .bgequ => 0x1E
  | .blssu => 0x1F
  | .addp4 => 0x20
  | .addp6 => 0x21
  | .subp4 => 0x22
  | .subp6 => 0x23
  | .cvtpt => 0x24
  | .mulp => 0x25
  | .cvttp => 0x26
  | .divp => 0x27
  | .movc3 => 0x28
  | .cmpc3 => 0x29
  | .scanc => 0x2A
  | .spanc => 0x2B
  | .movc5 => 0x2C
  | .cmpc5 => 0x2D
  | .movtc => 0x2E
  | .movtuc => 0x2F
  | .bsbw => 0x30
  | .brw => 0x31
  | .cvtwl => 0x32
  | .cvtwb => 0x33
  | .movp => 0x34
  | .cmpp3 => 0x35
  | .cvtpl => 0x36
  | .cmpp4 => 0x37
  | .editpc => 0x38
  | .matchc => 0x39
  | .locc => 0x3A
  | .skpc => 0x3B
  | .movzwl => 0x3C
  | .acbw => 0x3D
  | .movaw => 0x3E
  | .pushaw => 0x3F
  | .addf2 => 0x40
  | .addf3 => 0x41
  | .subf2 => 0x42
  | .subf3 => 0x43
  | .mulf2 => 0x44
  | .mulf3 => 0x45
  | .divf2 => 0x46
  | .divf3 => 0x47
  | .cvtfb => 0x48
  | .cvtfw => 0x49
  | .cvtfl => 0x4A
  | .cvtrfl => 0x4B
  | .cvtbf => 0x4C
  | .cvtwf => 0x4D
  | .cvtlf => 0x4E
  | .acbf => 0x4F
  | .movf => 0x50
  | .cmpf => 0x51
  | .mnegf => 0x52
  | .tstf => 0x53
  | .emodf => 0x54
  | .polyf => 0x55
  | .cvtfd => 0x56
  | .adawi => 0x58
  | .insqhi => 0x5C
  | .insqti => 0x5D
  | .remqhi => 0x5E
  | .remqti => 0x5F
  | .addd2 => 0x60
  | .addd3 => 0x61
  | .subd2 => 0x62
  | .subd3 => 0x63
  | .muld2 => 0x64
  | .muld3 => 0x65
  | .divd2 => 0x66
  | .divd3 => 0x67
  | .cvtdb => 0x68
  | .cvtdw => 0x69
  | .cvtdl => 0x6A
  | .cvtrdl => 0x6B
  | .cvtbd => 0x6C
  | .cvtwd => 0x6D
  | .cvtld => 0x6E
  | .acbd => 0x6F
  | .movd => 0x70
  | .cmpd => 0x71
  | .mnegd => 0x72
  | .tstd => 0x73
  | .emodd => 0x74
  | .polyd => 0x75
  | .cvtdf => 0x76
  | .ashl => 0x78
  | .ashq => 0x79
  | .emul => 0x7A
  | .ediv => 0x7B
  | .clrq => 0x7C
  | .movq => 0x7D
  | .movaq => 0x7E
  | .pushaq => 0x7F
  | .addb2 => 0x80
  | .addb3 => 0x81
  | .subb2 => 0x82
  | .subb3 => 0x83
  | .mulb2 => 0x84
  | .mulb3 => 0x85
  | .divb2 => 0x86
  | .divb3 => 0x87
  | .bisb2 => 0x88
  | .bisb3 => 0x89
  | .bicb2 => 0x8A
  | .bicb3 => 0x8B
  | .xorb2 => 0x8C
  | .xorb3 => 0x8D
  | .mnegb => 0x8E
  | .caseb => 0x8F
  | .movb => 0x90
  | .cmpb => 0x91
  | .mcomb => 0x92
  | .bitb => 0x93
  | .clrb => 0x94
  | .tstb => 0x95
  | .incb => 0x96
  | .decb => 0x97
  | .cvtbl => 0x98
  | .cvtbw => 0x99
  | .movzbl => 0x9A
  | .movzbw => 0x9B
  | .rotl => 0x9C
  | .acbb => 0x9D
  | .movab => 0x9E
  | .pushab => 0x9F
  | .addw2 => 0xA0
  | .addw3 => 0xA1
  | .subw2 => 0xA2
  | .subw3 => 0xA3
  | .mulw2 => 0xA4
  | .mulw3 => 0xA5
  | .divw2 => 0xA6
  | .divw3 => 0xA7
  | .bisw2 => 0xA8
  | .bisw3 => 0xA9
  | .bicw2 => 0xAA
  | .bicw3 => 0xAB
  | .xorw2 => 0xAC
  | .xorw3 => 0xAD
  | .mnegw => 0xAE
  | .casew => 0xAF
  | .movw => 0xB0
  | .cmpw => 0xB1
  | .mcomw => 0xB2
  | .bitw => 0xB3
  | .clrw => 0xB4
  | .tstw => 0xB5
  | .incw => 0xB6
  | .decw => 0xB7
  | .bispsw => 0xB8
  | .bicpsw => 0xB9
  | .popr => 0xBA
  | .pushr => 0xBB
  | .chmk => 0xBC
  | .chme => 0xBD
  | .chms => 0xBE
  | .chmu => 0xBF
  | .addl2 => 0xC0
  | .addl3 => 0xC1
  | .subl2 => 0xC2
  | .subl3 => 0xC3
  | .mull2 => 0xC4
  | .mull3 => 0xC5
  | .divl2 => 0xC6
  | .divl3 => 0xC7
  | .bisl2 => 0xC8
  | .bisl3 => 0xC9
  | .bicl2 => 0xCA
  | .bicl3 => 0xCB
  | .xorl2 => 0xCC
  | .xorl3 => 0xCD
  | .mnegl => 0xCE
  | .casel => 0xCF
  | .movl => 0xD0
  | .cmpl => 0xD1
  | .mcoml => 0xD2
  | .bitl => 0xD3
  | .clrl => 0xD4
  | .tstl => 0xD5
  | .incl => 0xD6
  | .decl => 0xD7
  | .adwc => 0xD8
  | .sbwc => 0xD9
  | .mtpr => 0xDA
  | .mfpr => 0xDB
  | .movpsl => 0xDC
  | .pushl => 0xDD
  | .moval => 0xDE
  | .pushal => 0xDF
  | .bbs => 0xE0
  | .bbc => 0xE1
  | .bbss => 0xE2
  | .bbcs => 0xE3
  | .bbsc => 0xE4
  | .bbcc => 0xE5
  | .bbssi => 0xE6
  | .bbcci => 0xE7
  | .blbs => 0xE8
  | .blbc => 0xE9
  | .ffs => 0xEA
  | .ffc => 0xEB
  | .cmpv => 0xEC
  | .cmpzv => 0xED
  | .extv => 0xEE
  | .extzv => 0xEF
  | .insv => 0xF0
  | .acbl => 0xF1
  | .aoblss => 0xF2
  | .aobleq => 0xF3
  | .sobgeq => 0xF4
  | .sobgtr => 0xF5
  | .cvtlb => 0xF6
  | .cvtlw => 0xF7
  | .ashp => 0xF8
  | .cvtlp => 0xF9
  | .callg => 0xFA
  | .calls => 0xFB
  | .xfc => 0xFC
  | .cvtdh => 0xFD32
  | .cvtgf => 0xFD33
  | .addg2 => 0xFD40
  | .addg3 => 0xFD41
  | .subg2 => 0xFD42
  | .subg3 => 0xFD43
  | .mulg2 => 0xFD44
  | .mulg3 => 0xFD45
  | .divg2 => 0xFD46
  | .divg3 => 0xFD47
  | .cvtgb => 0xFD48
  | .cvtgw => 0xFD49
  | .cvtgl => 0xFD4A
  | .cvtrgl => 0xFD4B
  | .cvtbg => 0xFD4C
  | .cvtwg => 0xFD4D
  | .cvtlg => 0xFD4E
  | .acbg => 0xFD4F
  | .movg => 0xFD50
  | .cmpg => 0xFD51
  | .mnegg => 0xFD52
  | .tstg => 0xFD53
  | .emodg => 0xFD54
  | .polyg => 0xFD55
  | .cvtgh => 0xFD56
  | .addh2 => 0xFD60
  | .addh3 => 0xFD61
  | .subh2 => 0xFD62
  | .subh3 => 0xFD63
  | .mulh2 => 0xFD64
  | .mulh3 => 0xFD65
  | .divh2 => 0xFD66
  | .divh3 => 0xFD67
  | .cvthb => 0xFD68
  | .cvthw => 0xFD69
  | .cvthl => 0xFD6A
  | .cvtrhl => 0xFD6B
  | .cvtbh => 0xFD6C
  | .cvtwh => 0xFD6D
  | .cvtlh => 0xFD6E
  | .acbh => 0xFD6F
  | .movh => 0xFD70
  | .cmph => 0xFD71
  | .mnegh => 0xFD72
  | .tsth => 0xFD73
  | .emodh => 0xFD74
  | .polyh => 0xFD75
  | .cvthg => 0xFD76
  | .clro => 0xFD7C
  | .movo => 0xFD7D
  | .movao => 0xFD7E
  | .pushao => 0xFD7F
  | .cvtfh => 0xFD98
  | .cvtfg => 0xFD99
  | .cvthf => 0xFDF6
  | .cvthd => 0xFDF7

/-- The mnemonic of an instruction. -/
def Instr.mnemonic : Instr → String
  | .halt => "HALT"
  | .nop => "NOP"
  | .rei => "REI"
  | .bpt => "BPT"
  | .ret => "RET"
  | .rsb => "RSB"
  | .ldpctx => "LDPCTX"
  | .svpctx => "SVPCTX"
  | .cvtps => "CVTPS"
  | .cvtsp => "CVTSP"
  | .index => "INDEX"
  | .crc => "CRC"
  | .prober => "PROBER"
  | .probew => "PROBEW"
  | .insque => "INSQUE"
  | .remque => "REMQUE"
  | .bsbb => "BSBB"
  | .brb => "BRB"
  | .bneq => "BNEQ"
  | .beql => "BEQL"
  | .bgtr => "BGTR"
  | .bleq => "BLEQ"
  | .jsb => "JSB"
  | .jmp => "JMP"
  | .bgeq => "BGEQ"
  | .blss => "BLSS"
  | .bgtru => "BGTRU"
  | .blequ => "BLEQU"
  | .bvc => "BVC"
  | .bvs => "BVS"
  | .bgequ => "BGEQU"
  | .blssu => "BLSSU"
  | .addp4 => "ADDP4"
  | .addp6 => "ADDP6"
  | .subp4 => "SUBP4"
  | .subp6 => "SUBP6"
  | .cvtpt => "CVTPT"
  | .mulp => "MULP"
  | .cvttp => "CVTTP"
  | .divp => "DIVP"
  | .movc3 => "MOVC3"
  | .cmpc3 => "CMPC3"
  | .scanc => "SCANC"
  | .spanc => "SPANC"
  | .movc5 => "MOVC5"
  | .cmpc5 => "CMPC5"
  | .movtc => "MOVTC"
  | .movtuc => "MOVTUC"
  | .bsbw => "BSBW"
  | .brw => "BRW"
  | .cvtwl => "CVTWL"
  | .cvtwb => "CVTWB"
  | .movp => "MOVP"
  | .cmpp3 => "CMPP3"
  | .cvtpl => "CVTPL"
  | .cmpp4 => "CMPP4"
  | .editpc => "EDITPC"
  | .matchc => "MATCHC"
  | .locc => "LOCC"
  | .skpc => "SKPC"
  | .movzwl => "MOVZWL"
  | .acbw => "ACBW"
  | .movaw => "MOVAW"
  | .pushaw => "PUSHAW"
  | .addf2 => "ADDF2"
  | .addf3 => "ADDF3"
  | .subf2 => "SUBF2"
  | .subf3 => "SUBF3"
  | .mulf2 => "MULF2"
  | .mulf3 => "MULF3"
  | .divf2 => "DIVF2"
  | .divf3 => "DIVF3"
  | .cvtfb => "CVTFB"
  | .cvtfw => "CVTFW"
  | .cvtfl => "CVTFL"
  | .cvtrfl => "CVTRFL"
  | .cvtbf => "CVTBF"
  | .cvtwf => "CVTWF"
  | .cvtlf => "CVTLF"
  | .acbf => "ACBF"
  | .movf => "MOVF"
  | .cmpf => "CMPF"
  | .mnegf => "MNEGF"
  | .tstf => "TSTF"
  | .emodf => "EMODF"
  | .polyf => "POLYF"
  | .cvtfd => "CVTFD"
  | .adawi => "ADAWI"
  | .insqhi => "INSQHI"
  | .insqti => "INSQTI"
  | .remqhi => "REMQHI"
  | .remqti => "REMQTI"
  | .addd2 => "ADDD2"
  | .addd3 => "ADDD3"
  | .subd2 => "SUBD2"
  | .subd3 => "SUBD3"
  | .muld2 => "MULD2"
  | .muld3 => "MULD3"
  | .divd2 => "DIVD2"
  | .divd3 => "DIVD3"
  | .cvtdb => "CVTDB"
  | .cvtdw => "CVTDW"
  | .cvtdl => "CVTDL"
  | .cvtrdl => "CVTRDL"
  | .cvtbd => "CVTBD"
  | .cvtwd => "CVTWD"
  | .cvtld => "CVTLD"
  | .acbd => "ACBD"
  | .movd => "MOVD"
  | .cmpd => "CMPD"
  | .mnegd => "MNEGD"
  | .tstd => "TSTD"
  | .emodd => "EMODD"
  | .polyd => "POLYD"
  | .cvtdf => "CVTDF"
  | .ashl => "ASHL"
  | .ashq => "ASHQ"
  | .emul => "EMUL"
  | .ediv => "EDIV"
  | .clrq => "CLRQ"
  | .movq => "MOVQ"
  | .movaq => "MOVAQ"
  | .pushaq => "PUSHAQ"
  | .addb2 => "ADDB2"
  | .addb3 => "ADDB3"
  | .subb2 => "SUBB2"
  | .subb3 => "SUBB3"
  | .mulb2 => "MULB2"
  | .mulb3 => "MULB3"
  | .divb2 => "DIVB2"
  | .divb3 => "DIVB3"
  | .bisb2 => "BISB2"
  | .bisb3 => "BISB3"
  | .bicb2 => "BICB2"
  | .bicb3 => "BICB3"
  | .xorb2 => "XORB2"
  | .xorb3 => "XORB3"
  | .mnegb => "MNEGB"
  | .caseb => "CASEB"
  | .movb => "MOVB"
  | .cmpb => "CMPB"
  | .mcomb => "MCOMB"
  | .bitb => "BITB"
  | .clrb => "CLRB"
  | .tstb => "TSTB"
  | .incb => "INCB"
  | .decb => "DECB"
  | .cvtbl => "CVTBL"
  | .cvtbw => "CVTBW"
  | .movzbl => "MOVZBL"
  | .movzbw => "MOVZBW"
  | .rotl => "ROTL"
  | .acbb => "ACBB"
  | .movab => "MOVAB"
  | .pushab => "PUSHAB"
  | .addw2 => "ADDW2"
  | .addw3 => "ADDW3"
  | .subw2 => "SUBW2"
  | .subw3 => "SUBW3"
  | .mulw2 => "MULW2"
  | .mulw3 => "MULW3"
  | .divw2 => "DIVW2"
  | .divw3 => "DIVW3"
  | .bisw2 => "BISW2"
  | .bisw3 => "BISW3"
  | .bicw2 => "BICW2"
  | .bicw3 => "BICW3"
  | .xorw2 => "XORW2"
  | .xorw3 => "XORW3"
  | .mnegw => "MNEGW"
  | .casew => "CASEW"
  | .movw => "MOVW"
  | .cmpw => "CMPW"
  | .mcomw => "MCOMW"
  | .bitw => "BITW"
  | .clrw => "CLRW"
  | .tstw => "TSTW"
  | .incw => "INCW"
  | .decw => "DECW"
  | .bispsw => "BISPSW"
  | .bicpsw => "BICPSW"
  | .popr => "POPR"
  | .pushr => "PUSHR"
  | .chmk => "CHMK"
  | .chme => "CHME"
  | .chms => "CHMS"
  | .chmu => "CHMU"
  | .addl2 => "ADDL2"
  | .addl3 => "ADDL3"
  | .subl2 => "SUBL2"
  | .subl3 => "SUBL3"
  | .mull2 => "MULL2"
  | .mull3 => "MULL3"
  | .divl2 => "DIVL2"
  | .divl3 => "DIVL3"
  | .bisl2 => "BISL2"
  | .bisl3 => "BISL3"
  | .bicl2 => "BICL2"
  | .bicl3 => "BICL3"
  | .xorl2 => "XORL2"
  | .xorl3 => "XORL3"
  | .mnegl => "MNEGL"
  | .casel => "CASEL"
  | .movl => "MOVL"
  | .cmpl => "CMPL"
  | .mcoml => "MCOML"
  | .bitl => "BITL"
  | .clrl => "CLRL"
  | .tstl => "TSTL"
  | .incl => "INCL"
  | .decl => "DECL"
  | .adwc => "ADWC"
  | .sbwc => "SBWC"
  | .mtpr => "MTPR"
  | .mfpr => "MFPR"
  | .movpsl => "MOVPSL"
  | .pushl => "PUSHL"
  | .moval => "MOVAL"
  | .pushal => "PUSHAL"
  | .bbs => "BBS"
  | .bbc => "BBC"
  | .bbss => "BBSS"
  | .bbcs => "BBCS"
  | .bbsc => "BBSC"
  | .bbcc => "BBCC"
  | .bbssi => "BBSSI"
  | .bbcci => "BBCCI"
  | .blbs => "BLBS"
  | .blbc => "BLBC"
  | .ffs => "FFS"
  | .ffc => "FFC"
  | .cmpv => "CMPV"
  | .cmpzv => "CMPZV"
  | .extv => "EXTV"
  | .extzv => "EXTZV"
  | .insv => "INSV"
  | .acbl => "ACBL"
  | .aoblss => "AOBLSS"
  | .aobleq => "AOBLEQ"
  | .sobgeq => "SOBGEQ"
  | .sobgtr => "SOBGTR"
  | .cvtlb => "CVTLB"
  | .cvtlw => "CVTLW"
  | .ashp => "ASHP"
  | .cvtlp => "CVTLP"
  | .callg => "CALLG"
  | .calls => "CALLS"
  | .xfc => "XFC"
  | .cvtdh => "CVTDH"
  | .cvtgf => "CVTGF"
  | .addg2 => "ADDG2"
  | .addg3 => "ADDG3"
  | .subg2 => "SUBG2"
  | .subg3 => "SUBG3"
  | .mulg2 => "MULG2"
  | .mulg3 => "MULG3"
  | .divg2 => "DIVG2"
  | .divg3 => "DIVG3"
  | .cvtgb => "CVTGB"
  | .cvtgw => "CVTGW"
  | .cvtgl => "CVTGL"
  | .cvtrgl => "CVTRGL"
  | .cvtbg => "CVTBG"
  | .cvtwg => "CVTWG"
  | .cvtlg => "CVTLG"
  | .acbg => "ACBG"
  | .movg => "MOVG"
  | .cmpg => "CMPG"
  | .mnegg => "MNEGG"
  | .tstg => "TSTG"
  | .emodg => "EMODG"
  | .polyg => "POLYG"
  | .cvtgh => "CVTGH"
  | .addh2 => "ADDH2"
  | .addh3 => "ADDH3"
  | .subh2 => "SUBH2"
  | .subh3 => "SUBH3"
  | .mulh2 => "MULH2"
  | .mulh3 => "MULH3"
  | .divh2 => "DIVH2"
  | .divh3 => "DIVH3"
  | .cvthb => "CVTHB"
  | .cvthw => "CVTHW"
  | .cvthl => "CVTHL"
  | .cvtrhl => "CVTRHL"
  | .cvtbh => "CVTBH"
  | .cvtwh => "CVTWH"
  | .cvtlh => "CVTLH"
  | .acbh => "ACBH"
  | .movh => "MOVH"
  | .cmph => "CMPH"
  | .mnegh => "MNEGH"
  | .tsth => "TSTH"
  | .emodh => "EMODH"
  | .polyh => "POLYH"
  | .cvthg => "CVTHG"
  | .clro => "CLRO"
  | .movo => "MOVO"
  | .movao => "MOVAO"
  | .pushao => "PUSHAO"
  | .cvtfh => "CVTFH"
  | .cvtfg => "CVTFG"
  | .cvthf => "CVTHF"
  | .cvthd => "CVTHD"

/-- The operand tags of an instruction, in order. -/
def Instr.tags : Instr → List Tag
  | .halt => []
  | .nop => []
  | .rei => []
  | .bpt => []
  | .ret => []
  | .rsb => []
  | .ldpctx => []
  | .svpctx => []
  | .cvtps => [.word, .byte, .word, .byte]
  | .cvtsp => [.word, .byte, .word, .byte]
  | .index => [.long, .long, .long, .long, .long, .long]
  | .crc => [.byte, .long, .word, .byte]
  | .prober => [.byte, .word, .byte]
  | .probew => [.byte, .word, .byte]
  | .insque => [.byte, .byte]
  | .remque => [.byte, .long]
  | .bsbb => [.bdisp8]
  | .brb => [.bdisp8]
  | .bneq => [.bdisp8]
  | .beql => [.bdisp8]
  | .bgtr => [.bdisp8]
  | .bleq => [.bdisp8]
  | .jsb => [.byte]
  | .jmp => [.byte]
  | .bgeq => [.bdisp8]
  | .blss => [.bdisp8]
  | .bgtru => [.bdisp8]
  | .blequ => [.bdisp8]
  | .bvc => [.bdisp8]
  | .bvs => [.bdisp8]
  | .bgequ => [.bdisp8]
  | .blssu => [.bdisp8]
  | .addp4 => [.word, .byte, .word, .byte]
  | .addp6 => [.word, .byte, .word, .byte, .word, .byte]
  | .subp4 => [.word, .byte, .word, .byte]
  | .subp6 => [.word, .byte, .word, .byte, .word, .byte]
  | .cvtpt => [.word, .byte, .byte, .word, .byte]
  | .mulp => [.word, .byte, .word, .byte, .word, .byte]
  | .cvttp => [.word, .byte, .byte, .word, .byte]
  | .divp => [.word, .byte, .word, .byte, .word, .byte]
  | .movc3 => [.word, .byte, .byte]
  | .cmpc3 => [.word, .byte, .byte]
  | .scanc => [.word, .byte, .byte, .byte]
  | .spanc => [.word, .byte, .byte, .byte]
  | .movc5 => [.word, .byte, .byte, .word, .byte]
  | .cmpc5 => [.word, .byte, .byte, .word, .byte]
  | .movtc => [.word, .byte, .byte, .byte, .word, .byte]
  | .movtuc => [.word, .byte, .byte, .byte, .word, .byte]
  | .bsbw => [.bdisp16]
  | .brw => [.bdisp16]
  | .cvtwl => [.word, .long]
  | .cvtwb => [.word, .byte]
  | .movp => [.word, .byte, .byte]
  | .cmpp3 => [.word, .byte, .byte]
  | .cvtpl => [.word, .byte, .long]
  | .cmpp4 => [.word, .byte, .word, .byte]
  | .editpc => [.word, .byte, .byte, .byte]
  | .matchc => [.word, .byte, .word, .byte]
  | .locc => [.byte, .word, .byte]
  | .skpc => [.byte, .word, .byte]
  | .movzwl => [.word, .long]
  | .acbw => [.word, .word, .word, .bdisp16]
  | .movaw => [.word, .long]
  | .pushaw => [.word]
  | .addf2 => [.fFloat, .fFloat]
  | .addf3 => [.fFloat, .fFloat, .fFloat]
  | .subf2 => [.fFloat, .fFloat]
  | .subf3 => [.fFloat, .fFloat, .fFloat]
  | .mulf2 => [.fFloat, .fFloat]
  | .mulf3 => [.fFloat, .fFloat, .fFloat]
  | .divf2 => [.fFloat, .fFloat]
  | .divf3 => [.fFloat, .fFloat, .fFloat]
  | .cvtfb => [.fFloat, .byte]
  | .cvtfw => [.fFloat, .word]
  | .cvtfl => [.fFloat, .long]
  | .cvtrfl => [.fFloat, .long]
  | .cvtbf => [.byte, .fFloat]
  | .cvtwf => [.word, .fFloat]
  | .cvtlf => [.long, .fFloat]
  | .acbf => [.fFloat, .fFloat, .fFloat, .bdisp16]
  | .movf => [.fFloat, .fFloat]
  | .cmpf => [.fFloat, .fFloat]
  | .mnegf => [.fFloat, .fFloat]
  | .tstf => [.fFloat]
  | .emodf => [.fFloat, .byte, .fFloat, .long, .fFloat]
  | .polyf => [.fFloat, .word, .byte]
  | .cvtfd => [.fFloat, .dFloat]
  | .adawi => [.word, .word]
  | .insqhi => [.byte, .quad]
  | .insqti => [.byte, .quad]
  | .remqhi => [.quad, .long]
  | .remqti => [.quad, .long]
  | .addd2 => [.dFloat, .dFloat]
  | .addd3 => [.dFloat, .dFloat, .dFloat]
  | .subd2 => [.dFloat, .dFloat]
  | .subd3 => [.dFloat, .dFloat, .dFloat]
  | .muld2 => [.dFloat, .dFloat]
  | .muld3 => [.dFloat, .dFloat, .dFloat]
  | .divd2 => [.dFloat, .dFloat]
  | .divd3 => [.dFloat, .dFloat, .dFloat]
  | .cvtdb => [.dFloat, .byte]
  | .cvtdw => [.dFloat, .word]
  | .cvtdl => [.dFloat, .long]
  | .cvtrdl => [.dFloat, .long]
  | .cvtbd => [.byte, .dFloat]
  | .cvtwd => [.word, .dFloat]
  | .cvtld => [.long, .dFloat]
  | .acbd => [.dFloat, .dFloat, .dFloat, .bdisp16]
  | .movd => [.dFloat, .dFloat]
  | .cmpd => [.dFloat, .dFloat]
  | .mnegd => [.dFloat, .dFloat]
  | .tstd => [.dFloat]
  | .emodd => [.dFloat, .byte, .dFloat, .long, .dFloat]
  | .polyd => [.dFloat, .word, .byte]
  | .cvtdf => [.dFloat, .fFloat]
  | .ashl => [.byte, .long, .long]
  | .ashq => [.byte, .quad, .quad]
  | .emul => [.long, .long, .long, .quad]
  | .ediv => [.long, .quad, .long, .long]
  | .clrq => [.quad]
  | .movq => [.quad, .quad]
  | .movaq => [.quad, .long]
  | .pushaq => [.quad]
  | .addb2 => [.byte, .byte]
  | .addb3 => [.byte, .byte, .byte]
  | .subb2 => [.byte, .byte]
  | .subb3 => [.byte, .byte, .byte]
  | .mulb2 => [.byte, .byte]
  | .mulb3 => [.byte, .byte, .byte]
  | .divb2 => [.byte, .byte]
  | .divb3 => [.byte, .byte, .byte]
  | .bisb2 => [.byte, .byte]
  | .bisb3 => [.byte, .byte, .byte]
  | .bicb2 => [.byte, .byte]
  | .bicb3 => [.byte, .byte, .byte]
  | .xorb2 => [.byte, .byte]
  | .xorb3 => [.byte, .byte, .byte]
  | .mnegb => [.byte, .byte]
  | .caseb => [.byte, .byte, .byte]
  | .movb => [.byte, .byte]
  | .cmpb => [.byte, .byte]
  | .mcomb => [.byte, .byte]
  | .bitb => [.byte, .byte]
  | .clrb => [.byte]
  | .tstb => [.byte]
  | .incb => [.byte]
  | .decb => [.byte]
  | .cvtbl => [.byte, .long]
  | .cvtbw => [.byte, .word]
  | .movzbl => [.byte, .long]
  | .movzbw => [.byte, .word]
  | .rotl => [.byte, .long, .long]
  | .acbb => [.byte, .byte, .byte, .bdisp16]
  | .movab => [.byte, .long]
  | .pushab => [.byte]
  | .addw2 => [.word, .word]
  | .addw3 => [.word, .word, .word]
  | .subw2 => [.word, .word]
  | .subw3 => [.word, .word, .word]
  | .mulw2 => [.word, .word]
  | .mulw3 => [.word, .word, .word]
  | .divw2 => [.word, .word]
  | .divw3 => [.word, .word, .word]
  | .bisw2 => [.word, .word]
  | .bisw3 => [.word, .word, .word]
  | .bicw2 => [.word, .word]
  | .bicw3 => [.word, .word, .word]
  | .xorw2 => [.word, .word]
  | .xorw3 => [.word, .word, .word]
  | .mnegw => [.word, .word]
  | .casew => [.word, .word, .word]
  | .movw => [.word, .word]
  | .cmpw => [.word, .word]
  | .mcomw => [.word, .word]
  | .bitw => [.word, .word]
  | .clrw => [.word]
  | .tstw => [.word]
  | .incw => [.word]
  | .decw => [.word]
  | .bispsw => [.word]
  | .bicpsw => [.word]
  | .popr => [.word]
  | .pushr => [.word]
  | .chmk => [.word]
  | .chme => [.word]
  | .chms => [.word]
  | .chmu => [.word]
  | .addl2 => [.long, .long]
  | .addl3 => [.long, .long, .long]
  | .subl2 => [.long, .long]
  | .subl3 => [.long, .long, .long]
  | .mull2 => [.long, .long]
  | .mull3 => [.long, .long, .long]
  | .divl2 => [.long, .long]
  | .divl3 => [.long, .long, .long]
  | .bisl2 => [.long, .long]
  | .bisl3 => [.long, .long, .long]
  | .bicl2 => [.long, .long]
  | .bicl3 => [.long, .long, .long]
  | .xorl2 => [.long, .long]
  | .xorl3 => [.long, .long, .long]
  | .mnegl => [.long, .long]
  | .casel => [.long, .long, .long]
  | .movl => [.long, .long]
  | .cmpl => [.long, .long]
  | .mcoml => [.long, .long]
  | .bitl => [.long, .long]
  | .clrl => [.long]
  | .tstl => [.long]
  | .incl => [.long]
  | .decl => [.long]
  | .adwc => [.long, .long]
  | .sbwc => [.long, .long]
  | .mtpr => [.long, .long]
  | .mfpr => [.long, .long]
  | .movpsl => [.long]
  | .pushl => [.long]
  | .moval => [.long, .long]
  | .pushal => [.long]
  | .bbs => [.long, .byte, .bdisp8]
  | .bbc => [.long, .byte, .bdisp8]
  | .bbss => [.long, .byte, .bdisp8]
  | .bbcs => [.long, .byte, .bdisp8]
  | .bbsc => [.long, .byte, .bdisp8]
  | .bbcc => [.long, .byte, .bdisp8]
  | .bbssi => [.long, .byte, .bdisp8]
  | .bbcci => [.long, .byte, .bdisp8]
  | .blbs => [.long, .bdisp8]
  | .blbc => [.long, .bdisp8]
  | .ffs => [.long, .byte, .byte, .long]
  | .ffc => [.long, .byte, .byte, .long]
  | .cmpv => [.long, .byte, .byte, .long]
  | .cmpzv => [.long, .byte, .byte, .long]
  | .extv => [.long, .byte, .byte, .long]
  | .extzv => [.long, .byte, .byte, .long]
  | .insv => [.long, .long, .byte, .byte]
  | .acbl => [.long, .long, .long, .bdisp16]
  | .aoblss => [.long, .long, .bdisp8]
  | .aobleq => [.long, .long, .bdisp8]
  | .sobgeq => [.long, .bdisp8]
  | .sobgtr => [.long, .bdisp8]
  | .cvtlb => [.long, .byte]
  | .cvtlw => [.long, .word]
  | .ashp => [.byte, .word, .byte, .byte, .word, .byte]
  | .cvtlp => [.long, .word, .byte]
  | .callg => [.byte, .byte]
  | .calls => [.long, .byte]
  | .xfc => []
  | .cvtdh => [.dFloat, .hFloat]
  | .cvtgf => [.gFloat, .fFloat]
  | .addg2 => [.gFloat, .gFloat]
  | .addg3 => [.gFloat, .gFloat, .gFloat]
  | .subg2 => [.gFloat, .gFloat]
  | .subg3 => [.gFloat, .gFloat, .gFloat]
  | .mulg2 => [.gFloat, .gFloat]
  | .mulg3 => [.gFloat, .gFloat, .gFloat]
  | .divg2 => [.gFloat, .gFloat]
  | .divg3 => [.gFloat, .gFloat, .gFloat]
  | .cvtgb => [.gFloat, .byte]
  | .cvtgw => [.gFloat, .word]
  | .cvtgl => [.gFloat, .long]
  | .cvtrgl => [.gFloat, .long]
  | .cvtbg => [.byte, .gFloat]
  | .cvtwg => [.word, .gFloat]
  | .cvtlg => [.long, .gFloat]
  | .acbg => [.gFloat, .gFloat, .gFloat, .bdisp16]
  | .movg => [.gFloat, .gFloat]
  | .cmpg => [.gFloat, .gFloat]
  | .mnegg => [.gFloat, .gFloat]
  | .tstg => [.gFloat]
  | .emodg => [.gFloat, .word, .gFloat, .long, .gFloat]
  | .polyg => [.gFloat, .word, .byte]
  | .cvtgh => [.gFloat, .hFloat]
  | .addh2 => [.hFloat, .hFloat]
  | .addh3 => [.hFloat, .hFloat, .hFloat]
  | .subh2 => [.hFloat, .hFloat]
  | .subh3 => [.hFloat, .hFloat, .hFloat]
  | .mulh2 => [.hFloat, .hFloat]
  | .mulh3 => [.hFloat, .hFloat, .hFloat]
  | .divh2 => [.hFloat, .hFloat]
  | .divh3 => [.hFloat, .hFloat, .hFloat]
  | .cvthb => [.hFloat, .byte]
  | .cvthw => [.hFloat, .word]
  | .cvthl => [.hFloat, .long]
  | .cvtrhl => [.hFloat, .long]
  | .cvtbh => [.byte, .hFloat]
  | .cvtwh => [.word, .hFloat]
  | .cvtlh => [.long, .hFloat]
  | .acbh => [.hFloat, .hFloat, .hFloat, .bdisp16]
  | .movh => [.hFloat, .hFloat]
  | .cmph => [.hFloat, .hFloat]
  | .mnegh => [.hFloat, .hFloat]
  | .tsth => [.hFloat]
  | .emodh => [.hFloat, .word, .hFloat, .long, .hFloat]
  | .polyh => [.hFloat, .word, .byte]
  | .cvthg => [.hFloat, .gFloat]
  | .clro => [.octa]
  | .movo => [.octa, .octa]
  | .movao => [.octa, .long]
  | .pushao => [.octa]
  | .cvtfh => [.fFloat, .hFloat]
  | .cvtfg => [.fFloat, .gFloat]
  | .cvthf => [.hFloat, .fFloat]
  | .cvthd => [.hFloat, .dFloat]

end Sys2Proof
end

