-- ==== Sys2Proof/WellFormed.lean ====
section
/-! DEFINITION. Well-formed instructions written out with their operands: what an encoding can hold. The checks: a
register-15 form that is another mode class (30_encoding R123), an immediate wider than its tag (30_encoding R126),
a general specifier under a branch tag (30_encoding R122), operands other than the row's tags (30_encoding R120). -/
namespace Sys2Proof

/-- A general specifier that the encoding under tag `t` can hold. -/
def Specifier.wellFormed (t : Tag) : Specifier → Bool
  | .indexed _ base => base.wellFormed t
  | .autoincrement r => r != 15
  | .autoincrementDeferred r => r != 15
  | .displacement r _ _ => r != 15
  | .immediate v => decide (v < 2 ^ (8 * t.width))
  | .shortLiteral _ | .register _ | .registerDeferred _ | .autodecrement _ | .absolute _ | .pcRelative _ _ => true

/-- A tagged operand that an instruction can hold. -/
def Operand.wellFormed : Operand → Bool
  | .general t sp => t.isGeneral && sp.wellFormed t
  | .branch8 _ => true
  | .branch16 _ => true

/-- A well-formed instruction: its operands stand under its row's tags, in order, and each can be held. -/
def AsmInstr.wellFormed (x : AsmInstr) : Bool :=
  decide (x.operands.map Operand.tag = x.instr.tags) && x.operands.all Operand.wellFormed

/-- The index bytes of a specifier (41_operand_modes R195). -/
def Specifier.indexBytes : Specifier → Nat
  | .indexed _ base => base.indexBytes + 1
  | .shortLiteral _ | .register _ | .registerDeferred _ | .autodecrement _ | .autoincrement _ | .immediate _
  | .autoincrementDeferred _ | .absolute _ | .displacement _ _ _ | .pcRelative _ _ => 0

/-- The index bytes of a tagged operand; a branch displacement has none (41_operand_modes R213). -/
def Operand.indexBytes : Operand → Nat
  | .general _ sp => sp.indexBytes
  | .branch8 _ => 0
  | .branch16 _ => 0

/-- A count of index bytes that INDEX_CHAIN_LIMIT allows (41_operand_modes R195). -/
def chainAllowed (limit : Option Nat) (n : Nat) : Bool :=
  match limit with
  | none => true
  | some l => decide (n ≤ l)

/-- Every operand of the instruction keeps to INDEX_CHAIN_LIMIT. -/
def AsmInstr.withinChainLimit (limit : Option Nat) (x : AsmInstr) : Bool :=
  x.operands.all (fun o => chainAllowed limit o.indexBytes)

end Sys2Proof
end

