-- ==== Sys2Proof/Decode.lean ====
section
/-! DEFINITION. The decoder: from bytes to an instruction, a row of another OPTABLE, an unknown codepoint, or the
first fault in fetch order, total on any bytes (40_opcode_fetch, 41_operand_modes R190 to R212 as far as they
consume bytes); and the encoder, written from the same tables (30_encoding R120 to R130). What a decoded operand
means (its record) is Machine/Operands.lean. -/
namespace Sys2Proof

/-- The three faults decoding can raise (60_exceptions R301): a read of `size` bytes at `addr` past the end of
memory, an invalid tag code reached at `addr`, one index byte too many at `addr`. -/
inductive DecodeFault where
  | oob (addr size : Nat)
  | badTag (addr : Nat) (code : BitVec 4)
  | indexChain (addr : Nat)
deriving DecidableEq, Repr

/-- A fault of an instruction: `cp` is its codepoint once the opcode fetch has completed, none before
(60_exceptions R301: CP and CPV). -/
structure InstrFault where
  fault : DecodeFault
  cp    : Option Codepoint
deriving DecidableEq, Repr

/-- Bytes to decode from: `size` is MEM_SIZE (20_memory R80). -/
structure Source where
  size : Nat
  byte : Nat → Byte

/-- The bytes of a list, from address 0. -/
def Source.ofBytes (bs : List Byte) : Source := ⟨bs.length, fun a => bs.getD a 0⟩

/-- The unsigned little-endian number of the `n` bytes at `a` (20_memory R84). -/
def Source.le (src : Source) : (n a : Nat) → Nat
  | 0, _ => 0
  | n + 1, a => (src.byte a).toNat + 256 * src.le n (a + 1)

/-- The bound of a read, checked as a whole; answers the address after it (20_memory R85). -/
def checkRead (size a n : Nat) : Except DecodeFault Nat :=
  if a + n > size then .error (.oob a n) else .ok (a + n)

/-- `Fetch(n)` at `a`: the value and the address after it, or F_OOB (20_memory R84 to R86). -/
def Source.fetch (src : Source) (n a : Nat) : Except DecodeFault (Nat × Nat) :=
  match checkRead src.size a n with
  | .error f => .error f
  | .ok p => .ok (src.le n a, p)

/-- Fetch a displacement field of width `w` (30_encoding R127). -/
def decodeDisp (src : Source) (w : DispWidth) (a : Nat) : Except DecodeFault (Disp × Nat) :=
  match src.fetch w.bytes a with
  | .error f => .error f
  | .ok (v, p) =>
    match w with
    | .byte => .ok (.byte (BitVec.ofNat 8 v), p)
    | .word => .ok (.word (BitVec.ofNat 16 v), p)
    | .long => .ok (.long (BitVec.ofNat 32 v), p)

/-- `DecodeGeneral(t, depth)` at `a`: the mode byte, then what its class consumes (41_operand_modes R192 to R210).
`fuel` is the number of bytes from `a` to the end of memory: every index byte consumes one of them, and with none left
the mode byte's own fetch faults. -/
def decodeSpecifier (limit : Option Nat) (src : Source) (t : Tag) :
    (fuel depth a : Nat) → Except DecodeFault (Specifier × Nat)
  | 0, _, a => .error (.oob a 1)
  | fuel + 1, depth, a =>
    match src.fetch 1 a with
    | .error f => .error f
    | .ok (v, p) =>
      let m : Byte := BitVec.ofNat 8 v
      match modeClass m with
      | .shortLiteral => .ok (.shortLiteral (m.extractLsb' 0 6), p)
      | .indexed =>
        if chainFull limit depth then .error (.indexChain a)
        else
          match decodeSpecifier limit src t fuel (depth + 1) p with
          | .error f => .error f
          | .ok (base, q) => .ok (.indexed (regNibble m) base, q)
      | .register => .ok (.register (regNibble m), p)
      | .registerDeferred => .ok (.registerDeferred (regNibble m), p)
      | .autodecrement => .ok (.autodecrement (regNibble m), p)
      | .autoincrement => .ok (.autoincrement (regNibble m), p)
      | .immediate =>
        match src.fetch t.width p with
        | .error f => .error f
        | .ok (v, q) => .ok (.immediate v, q)
      | .autoincrementDeferred => .ok (.autoincrementDeferred (regNibble m), p)
      | .absolute =>
        match src.fetch 4 p with
        | .error f => .error f
        | .ok (v, q) => .ok (.absolute (BitVec.ofNat 32 v), q)
      | .displacement w deferred =>
        match decodeDisp src w p with
        | .error f => .error f
        | .ok (d, q) => .ok (.displacement (regNibble m) d deferred, q)
      | .pcRelative w deferred =>
        match decodeDisp src w p with
        | .error f => .error f
        | .ok (d, q) => .ok (.pcRelative d deferred, q)

/-- `DecodeOperand(t)` at `a`, by the tag's code (41_operand_modes R190). No byte is read for an invalid code. -/
def decodeOperand (limit : Option Nat) (src : Source) (code : BitVec 4) (a : Nat) :
    Except DecodeFault (Operand × Nat) :=
  match Tag.ofCode code with
  | none => .error (.badTag a code)
  | some .bdisp8 =>
    match src.fetch 1 a with
    | .error f => .error f
    | .ok (v, p) => .ok (.branch8 (BitVec.ofNat 8 v), p)
  | some .bdisp16 =>
    match src.fetch 2 a with
    | .error f => .error f
    | .ok (v, p) => .ok (.branch16 (BitVec.ofNat 16 v), p)
  | some t =>
    match decodeSpecifier limit src t (src.size - a) 0 a with
    | .error f => .error f
    | .ok (sp, p) => .ok (.general t sp, p)

/-- The operands of a tag list, one after another, each at the address the one before left (42_decode_loop R242). -/
def decodeOperands (limit : Option Nat) (src : Source) :
    List (BitVec 4) → Nat → Except DecodeFault (List Operand × Nat)
  | [], a => .ok ([], a)
  | c :: cs, a =>
    match decodeOperand limit src c a with
    | .error f => .error f
    | .ok (o, p) =>
      match decodeOperands limit src cs p with
      | .error f => .error f
      | .ok (os, q) => .ok (o :: os, q)

/-- The opcode field at `a`: codepoint, opcode width and the address after it (40_opcode_fetch R171, R172). The
escape byte stands high in the codepoint (20_memory R89). -/
def fetchOpcode (escape : Byte) (src : Source) (a : Nat) : Except DecodeFault (Codepoint × Nat × Nat) :=
  match src.fetch 1 a with
  | .error f => .error f
  | .ok (b0, p) =>
    if BitVec.ofNat 8 b0 = escape then
      match src.fetch 1 p with
      | .error f => .error f
      | .ok (b1, q) => .ok (BitVec.ofNat 16 (b0 * 256 + b1), 2, q)
    else .ok (BitVec.ofNat 16 b0, 1, p)

/-- The patch entry of a codepoint, the first if there are several (10_state R52 allows one). -/
def Params.patchEntry (P : Params) (cp : Codepoint) : Option (Option Descriptor) :=
  (P.optablePatch.find? (fun e => e.1 == cp)).map Prod.snd

/-- OPTABLE as the map from codepoint to descriptor that it is (10_state R51): the patch over the default rows. -/
def Params.optable (P : Params) (cp : Codepoint) : Option Descriptor :=
  match P.patchEntry cp with
  | some d => d
  | none => (findRow cp).map OpRow.descriptor

/-- What the opcode field at an instruction start selects: an instruction of the default table, a row of another
OPTABLE, or a codepoint with no descriptor. -/
inductive Opcode where
  | known (i : Instr)
  | otherRow (cp : Codepoint) (cw : Nat) (d : Descriptor)
  | unknown (cp : Codepoint) (cw : Nat)
deriving DecidableEq, Repr

/-- The table lookup (40_opcode_fetch R173 to R175): a patched codepoint has what the patch gives it; another one has
its default row, as an instruction when the opcode field has that row's width. -/
def selectOpcode (P : Params) (cp : Codepoint) (cw : Nat) : Opcode :=
  match P.patchEntry cp with
  | some none => .unknown cp cw
  | some (some d) => .otherRow cp cw d
  | none =>
    match findRow cp with
    | none => .unknown cp cw
    | some r => if opcodeWidth r.cp = cw then .known r.instr else .otherRow cp cw r.descriptor

/-- The opcode phase at `a`: fetch, codepoint and lookup (40_opcode_fetch R170 to R175). -/
def decodeOpcode (P : Params) (src : Source) (a : Nat) : Except DecodeFault (Opcode × Nat) :=
  match fetchOpcode P.escapeByte src a with
  | .error f => .error f
  | .ok (cp, cw, p) => .ok (selectOpcode P cp cw, p)

/-- An instruction start decoded with its operands, as syntax. -/
inductive Decoded where
  | known (x : AsmInstr)
  | otherRow (cp : Codepoint) (cw : Nat) (d : Descriptor) (ops : List Operand)
  | unknown (cp : Codepoint) (cw : Nat)
deriving DecidableEq, Repr

/-- The instruction at `a` and the address after it, or the first fault in fetch order (42_decode_loop R248;
60_exceptions R307). -/
def decodeInstr (P : Params) (src : Source) (a : Nat) : Except InstrFault (Decoded × Nat) :=
  match decodeOpcode P src a with
  | .error f => .error ⟨f, none⟩
  | .ok (.unknown cp cw, p) => .ok (.unknown cp cw, p)
  | .ok (.otherRow cp cw d, p) =>
    match decodeOperands P.indexChainLimit src d.tags p with
    | .error f => .error ⟨f, some cp⟩
    | .ok (ops, q) => .ok (.otherRow cp cw d ops, q)
  | .ok (.known i, p) =>
    match decodeOperands P.indexChainLimit src (i.tags.map Tag.code) p with
    | .error f => .error ⟨f, some i.codepoint⟩
    | .ok (ops, q) => .ok (.known ⟨i, ops⟩, q)

/-! ### The encoder (30_encoding R120 to R130) -/

/-- The bytes of a displacement field, little-endian. -/
def encodeDisp : Disp → List Byte
  | .byte d => leBytes 1 d.toNat
  | .word d => leBytes 2 d.toNat
  | .long d => leBytes 4 d.toNat

/-- The mode nibble of a displacement class by field width; the deferred form is one higher (30_encoding R123). -/
def dispNibble (w : DispWidth) (deferred : Bool) : BitVec 4 :=
  match w, deferred with
  | .byte, false => 0xA | .byte, true => 0xB
  | .word, false => 0xC | .word, true => 0xD
  | .long, false => 0xE | .long, true => 0xF

/-- The bytes of a general specifier under tag `t` (30_encoding R123 to R129). -/
def encodeSpecifier (t : Tag) : Specifier → List Byte
  | .shortLiteral v => [v.setWidth 8]
  | .indexed x base => modeByte 4 x :: encodeSpecifier t base
  | .register r => [modeByte 5 r]
  | .registerDeferred r => [modeByte 6 r]
  | .autodecrement r => [modeByte 7 r]
  | .autoincrement r => [modeByte 8 r]
  | .immediate v => 0x8F :: leBytes t.width v
  | .autoincrementDeferred r => [modeByte 9 r]
  | .absolute a => 0x9F :: leBytes 4 a.toNat
  | .displacement r d deferred => modeByte (dispNibble d.width deferred) r :: encodeDisp d
  | .pcRelative d deferred => modeByte (dispNibble d.width deferred) 15 :: encodeDisp d

/-- The bytes of a tagged operand; a branch displacement has no mode byte (30_encoding R130). -/
def encodeOperand : Operand → List Byte
  | .general t sp => encodeSpecifier t sp
  | .branch8 d => leBytes 1 d.toNat
  | .branch16 d => leBytes 2 d.toNat

/-- The opcode field of a codepoint: one byte, or two with the high one first (30_encoding R121). -/
def encodeOpcode (cp : Codepoint) : List Byte :=
  if cp.toNat < 256 then [BitVec.ofNat 8 cp.toNat]
  else [BitVec.ofNat 8 (cp.toNat / 256), BitVec.ofNat 8 cp.toNat]

/-- The bytes of an instruction in fetch order, with no padding (30_encoding R120). -/
def encode (x : AsmInstr) : List Byte := encodeOpcode x.instr.codepoint ++ x.operands.flatMap encodeOperand

/-! ### The host's table words -/

/-- The bytes, in fetch order, of a table word of `nbits` bits. spec/opcode_table.json numbers a two-byte opcode
(format OP2) with the escape byte high: 16 bits with 0xFD in bits 15..8 are fetched high byte first
(30_encoding, introduction; 20_memory R89). Any other word is laid out with its low byte first. Log entry 11. -/
def tableBytes (nbits w : Nat) : List Byte :=
  if nbits = 16 ∧ w / 256 % 256 = 0xFD then [BitVec.ofNat 8 (w / 256), BitVec.ofNat 8 w]
  else leBytes (nbits / 8) w

/-- The instruction the decoder reads, with the default parameters, from a table word whose further bytes are all
zero. No instruction of zero operand bytes is longer than 8 bytes (30_encoding R131). -/
def decodeTableWord (nbits w : Nat) : Option Instr :=
  match decodeInstr Config.defaultParams (Source.ofBytes (tableBytes nbits w ++ List.replicate 8 0)) 0 with
  | .ok (.known x, _) => some x.instr
  | _ => none

end Sys2Proof
end

