-- ==== Sys2Proof/Machine/Memory.lean ====
section
/-! DEFINITION. MEM (20_memory R80): the bytes that differ from 0 as (address, byte) pairs in one canonical form,
addresses strictly rising and no entry 0. An address that is not listed reads 0, as a byte that nothing has loaded
does (20_memory R81). The bound MEM_SIZE is checked by the operations that read and load, not here. -/
namespace Sys2Proof.Machine

/-- The memory's listed cells. -/
structure Memory where
  cells : List Host.Cell
deriving DecidableEq, Repr

/-- What an address that is not listed reads as (20_memory R81). -/
def unlistedByte : Byte := 0

/-- The byte of a cell list at an address. -/
def readCells : List Host.Cell → Nat → Byte
  | [], _ => unlistedByte
  | (k, v) :: rest, a => if k = a then v else readCells rest a

/-- Write one byte into a cell list, keeping the canonical form: writing `unlistedByte` removes the entry. -/
def writeCells : List Host.Cell → Nat → Byte → List Host.Cell
  | [], a, b => if b = unlistedByte then [] else [(a, b)]
  | (k, v) :: rest, a, b =>
    if a < k then (if b = unlistedByte then (k, v) :: rest else (a, b) :: (k, v) :: rest)
    else if a = k then (if b = unlistedByte then rest else (a, b) :: rest)
    else (k, v) :: writeCells rest a b

/-- The canonical form of a cell list whose addresses all lie at or above `lo`. -/
def cellsWf : Nat → List Host.Cell → Bool
  | _, [] => true
  | lo, (k, v) :: rest => decide (lo ≤ k) && decide (v ≠ unlistedByte) && cellsWf (k + 1) rest

/-- The memory after reset: every byte 0 (20_memory R81). -/
def Memory.zero : Memory := ⟨[]⟩

/-- The byte at an address. -/
def Memory.read (m : Memory) (a : Nat) : Byte := readCells m.cells a

/-- Write one byte. -/
def Memory.write (m : Memory) (a : Nat) (b : Byte) : Memory := ⟨writeCells m.cells a b⟩

/-- Write bytes at rising addresses from `a` (20_memory R82). -/
def Memory.writeBytes (m : Memory) (a : Nat) : List Byte → Memory
  | [] => m
  | b :: bs => (m.write a b).writeBytes (a + 1) bs

/-- The `n` bytes from `a`, in address order (42_decode_loop R251: `MEM[start .. end-1]`). -/
def Memory.slice (m : Memory) (a : Nat) : Nat → List Byte
  | 0 => []
  | n + 1 => m.read a :: m.slice (a + 1) n

/-- The canonical form: addresses strictly rising, no entry `unlistedByte`. -/
def Memory.wf (m : Memory) : Bool := cellsWf 0 m.cells

/-- Every listed address lies below MEM_SIZE. -/
def Memory.below (m : Memory) (size : Nat) : Bool := m.cells.all (fun c => decide (c.1 < size))

end Sys2Proof.Machine
end

