-- ==== Sys2Proof/Machine/Record.lean ====
section
/-! DEFINITION. What the block puts out: the operand records of 41_operand_modes R214 and the decoded-instruction
record of 42_decode_loop R251. Addresses are natural numbers (00_scope R11); computed values are bit patterns. -/
namespace Sys2Proof.Machine

/-- The fields every operand record has (41_operand_modes R214): its tag, the address of its first byte, the address
after its last one, and the tag's defined width (R191). -/
structure OperandHead where
  tag       : Tag
  start     : Nat
  stop      : Nat
  typeWidth : Nat
deriving DecidableEq, Repr

/-- An operand record by class, with the class's further fields (41_operand_modes R214). -/
inductive OperandRecord where
  | shortLiteral (head : OperandHead) (value : BitVec 6)
  | indexed (head : OperandHead) (xreg : RegNo) (base : OperandRecord)
  | register (head : OperandHead) (reg : RegNo)
  | registerDeferred (head : OperandHead) (reg : RegNo)
  | autodecrement (head : OperandHead) (reg : RegNo)
  | autoincrement (head : OperandHead) (reg : RegNo)
  | immediate (head : OperandHead) (value width : Nat)
  | autoincrementDeferred (head : OperandHead) (reg : RegNo)
  | absolute (head : OperandHead) (value : Word)
  | displacement (head : OperandHead) (reg : RegNo) (dwidth : Nat) (disp : Word) (deferred : Bool)
  | pcRelative (head : OperandHead) (dwidth : Nat) (disp : Word) (deferred : Bool) (target : Word)
  | branch (head : OperandHead) (dwidth : Nat) (disp target : Word)
deriving DecidableEq, Repr

/-- The common fields of an operand record. -/
def OperandRecord.head : OperandRecord → OperandHead
  | .shortLiteral h _ | .indexed h _ _ | .register h _ | .registerDeferred h _ | .autodecrement h _
  | .autoincrement h _ | .immediate h _ _ | .autoincrementDeferred h _ | .absolute h _
  | .displacement h _ _ _ _ | .pcRelative h _ _ _ _ | .branch h _ _ _ => h

/-- A descriptor was found for the codepoint, or not (42_decode_loop R251). -/
inductive RecordKind where
  | known | unknown
deriving DecidableEq, Repr

/-- The decoded-instruction record (42_decode_loop R251); `stop` is its exclusive end. -/
structure Record where
  start    : Nat
  stop     : Nat
  bytes    : List Byte
  kind     : RecordKind
  cp       : Codepoint
  cw       : Nat
  mnemonic : Option String
  ops      : List OperandRecord
deriving DecidableEq, Repr

end Sys2Proof.Machine
end

