-- ==== Sys2Proof/Machine/State.lean ====
section
/-! DEFINITION. The machine's state: every piece of state 10_state R40 names, the parameters of 00_scope R9 as read-only
data, and four fields of the model's own (what the parties outside do next, and the free-value counter); the state
after reset (10_state R59); the reasons a step can stop. -/
namespace Sys2Proof.Machine

/-- The phases of the engine (10_state R55). -/
inductive Phase where
  | idle | fetchOpcode | decodeOperands | emit | done | fault
deriving DecidableEq, Repr

/-- The values of STATUS.CAUSE with a name (10_state R50, 60_exceptions R301). -/
inductive Cause where
  | none | oob | badTag | indexChain | badMode
deriving DecidableEq, Repr

/-- STATUS.CAUSE and the fault registers FAULT_ADDR, FAULT_SIZE, FAULT_START and FAULT_INFO (10_state R50). -/
structure FaultRegs where
  cause : Cause
  addr  : BitVec 32
  size  : BitVec 5
  start : BitVec 32
  cp    : BitVec 16
  cpv   : Bool
  tag   : BitVec 4
deriving DecidableEq, Repr

/-- The fault registers cleared: their value after reset and after START (10_state R59, 42_decode_loop R240). -/
def FaultRegs.clear : FaultRegs :=
  { cause := .none, addr := 0, size := 0, start := 0, cp := 0, cpv := false, tag := 0 }

/-- The host's register map (10_state R50). -/
inductive HostReg where
  | csegSize | control | status | faultAddr | faultSize | faultStart | faultInfo
deriving DecidableEq, Repr

/-- What a party outside the block does between two steps of the engine (log entries 8 and 9): nothing (`engine`), a
host load (20_memory R82), a host register write (10_state R50), the consumer's line set (42_decode_loop R254),
reset (70 R340). Reading a register changes nothing and is the function `State.hostRead`. -/
inductive Input where
  | engine
  | load (offset : Nat) (bytes : List Byte)
  | write (reg : HostReg) (value : BitVec 32)
  | consumer (ready : Bool)
  | reset
deriving DecidableEq, Repr

/-- The state. The spec's own: `mem` to `out` (10_state R40). The model's own: `inputs`, `ready`, `accepted`,
`freeCount` (log entries 4, 8, 9, 10). -/
structure State where
  /-- MEM (20_memory R80). -/
  mem : Memory
  /-- x[0] to x[14] (10_state R41); never read, never written (R42). -/
  x : Vector (BitVec 32) 15
  /-- x[15], the program counter (10_state R44). -/
  pc : Nat
  /-- CSEG_SIZE (10_state R49). -/
  csegSize : BitVec 32
  /-- STATUS.LOAD_ERR (10_state R50, 20_memory R82). -/
  loadErr : Bool
  /-- STATUS.CAUSE and the fault registers (10_state R50). -/
  faultRegs : FaultRegs
  /-- MEM_SIZE, ESCAPE_BYTE, INDEX_CHAIN_LIMIT and OPTABLE: read-only (00_scope R9, 10_state R52). -/
  params : Params
  /-- The engine's phase; STATUS.STATE is a view of it (10_state R55). -/
  phase : Phase
  /-- Start address of the instruction in progress (10_state R55). -/
  start : Nat
  /-- Its codepoint (10_state R55). -/
  cp : Codepoint
  /-- Its opcode width, 1 or 2 (10_state R55). -/
  cw : Nat
  /-- Its descriptor, or none (10_state R55). -/
  desc : Option Descriptor
  /-- Index of the next operand tag to decode (10_state R55). -/
  k : Nat
  /-- Operand records decoded so far (10_state R55). -/
  ops : List OperandRecord
  /-- The output holding register (10_state R57). -/
  out : Option Record
  /-- Model's own: what the parties outside do next, oldest first. -/
  inputs : List Input
  /-- Model's own: the consumer accepts a presented record. -/
  ready : Bool
  /-- Model's own: the records accepted since the last START, oldest first. -/
  accepted : List Record
  /-- Model's own: the counter that the free `pc` after a fault is read at. -/
  freeCount : Nat
deriving DecidableEq, Repr

/-- The state after reset of a block with parameters `P` (10_state R59); OPTABLE and the other parameters are not
altered by reset. The model's own fields are the values of log entries 4, 8, 9 and 10. -/
def State.initial (P : Params) : State where
  mem       := Memory.zero
  x         := Vector.replicate 15 0
  pc        := 0
  csegSize  := 0
  loadErr   := false
  faultRegs := FaultRegs.clear
  params    := P
  phase     := .idle
  start     := 0
  cp        := 0
  cw        := 1
  desc      := none
  k         := 0
  ops       := []
  out       := none
  inputs    := []
  ready     := true
  accepted  := []
  freeCount := 0

/-- The machine right after reset, with the default parameters (00_scope R9; MEM_SIZE is log entry 1). -/
def State.reset : State := State.initial Config.defaultParams

/-- The reasons the machine itself stops. The decode faults of 60_exceptions are no such stops: taking one is a next
state (`State.takeFault`). -/
inductive Fault where
  /-- Raised by the engine in phase DECODE_OPERANDS with no descriptor, a control state that no rule gives (40 R174,
  R175) and that no run reaches. Safe: the model stops where the spec says nothing. Log entry 12. -/
  | noDescriptor
deriving DecidableEq, Repr

/-- The reasons the model gives no meaning. -/
inductive Refusal where
  /-- Raised by no arm of exec: every instruction has its meaning. Safe: a refusal claims nothing. -/
  | notModelled (mnemonic : String)
deriving DecidableEq, Repr

end Sys2Proof.Machine
end

