-- ==== Sys2Proof/Machine/Flags.lean ====
section
/-! DEFINITION. The block has no flags or condition codes (10_state R58). The status bits it has: STATUS.STATE,
STATUS.CAUSE and STATUS.LOAD_ERR, the FAULT_INFO fields, and the words the host reads them in (10_state R50). -/
namespace Sys2Proof.Machine

/-- STATUS.STATE of a phase (10_state R50, R55): 0 IDLE, 1 RUNNING, 2 DONE, 3 FAULT. -/
def Phase.stateCode : Phase → BitVec 2
  | .idle => 0
  | .fetchOpcode | .decodeOperands | .emit => 1
  | .done => 2
  | .fault => 3

/-- STATE = RUNNING (10_state R55). -/
def Phase.running : Phase → Bool
  | .fetchOpcode | .decodeOperands | .emit => true
  | .idle | .done | .fault => false

/-- STATUS.CAUSE as its code (10_state R50). -/
def Cause.code : Cause → BitVec 4
  | .none => 0 | .oob => 1 | .badTag => 2 | .indexChain => 3 | .badMode => 4

/-- STATUS: STATE in bits 1..0, CAUSE in bits 7..4, LOAD_ERR in bit 8, every other bit 0 (10_state R50). -/
def State.statusWord (s : State) : BitVec 32 :=
  (0 : BitVec 23) ++ BitVec.ofBool s.loadErr ++ s.faultRegs.cause.code ++ (0 : BitVec 2) ++ s.phase.stateCode

/-- FAULT_INFO: CP in bits 15..0, CPV in bit 16, TAG in bits 23..20, every other bit 0 (10_state R50). -/
def State.faultInfoWord (s : State) : BitVec 32 :=
  (0 : BitVec 8) ++ s.faultRegs.tag ++ (0 : BitVec 3) ++ BitVec.ofBool s.faultRegs.cpv ++ s.faultRegs.cp

end Sys2Proof.Machine
end

