-- ==== Sys2Proof/Machine/Operands.lean ====
section
/-! DEFINITION. The addressing-mode resolver: the operand record of each mode class and of a branch displacement
(41_operand_modes R190 to R214), over the byte decoding of Decode.lean. It reads no register and computes no effective
address but PC_RELATIVE and BRANCH targets (R215, R216). -/
namespace Sys2Proof.Machine

/-- The common fields of an operand record of tag `t` (41_operand_modes R191, R214). -/
def operandHead (t : Tag) (start stop : Nat) : OperandHead := ⟨t, start, stop, t.width⟩

/-- A target: the address after the displacement plus the extended displacement, modulo 2^32 (41_operand_modes R209,
R211). -/
def targetOf (stop : Nat) (disp : Word) : Word := BitVec.ofNat 32 stop + disp

/-- The record of a general specifier that occupies `start .. stop-1`, by class (41_operand_modes R193 to R210). The
base of an indexed operand starts after the index byte and ends where the operand ends (R194). -/
def specifierRecord (t : Tag) (start stop : Nat) : Specifier → OperandRecord
  | .shortLiteral v => .shortLiteral (operandHead t start stop) v
  | .indexed x base => .indexed (operandHead t start stop) x (specifierRecord t (start + 1) stop base)
  | .register r => .register (operandHead t start stop) r
  | .registerDeferred r => .registerDeferred (operandHead t start stop) r
  | .autodecrement r => .autodecrement (operandHead t start stop) r
  | .autoincrement r => .autoincrement (operandHead t start stop) r
  | .immediate v => .immediate (operandHead t start stop) v t.width
  | .autoincrementDeferred r => .autoincrementDeferred (operandHead t start stop) r
  | .absolute a => .absolute (operandHead t start stop) a
  | .displacement r d deferred =>
    .displacement (operandHead t start stop) r d.width.bytes d.sext deferred
  | .pcRelative d deferred =>
    .pcRelative (operandHead t start stop) d.width.bytes d.sext deferred (targetOf stop d.sext)

/-- The record of an operand that occupies `start .. stop-1` (41_operand_modes R190, R211, R212). -/
def operandRecord (start stop : Nat) : Operand → OperandRecord
  | .general t sp => specifierRecord t start stop sp
  | .branch8 d => .branch (operandHead .bdisp8 start stop) 1 (d.signExtend 32) (targetOf stop (d.signExtend 32))
  | .branch16 d => .branch (operandHead .bdisp16 start stop) 2 (d.signExtend 32) (targetOf stop (d.signExtend 32))

/-- `DecodeOperand(t)` at `a`: the operand record and the address after it (41_operand_modes R190). -/
def resolveOperand (limit : Option Nat) (src : Source) (code : BitVec 4) (a : Nat) :
    Except DecodeFault (OperandRecord × Nat) :=
  match decodeOperand limit src code a with
  | .error f => .error f
  | .ok (o, p) => .ok (operandRecord a p o, p)

/-- The operand records of a tag list, in order, each at the address the one before left (42_decode_loop R242). -/
def resolveOperands (limit : Option Nat) (src : Source) :
    List (BitVec 4) → Nat → Except DecodeFault (List OperandRecord × Nat)
  | [], a => .ok ([], a)
  | c :: cs, a =>
    match resolveOperand limit src c a with
    | .error f => .error f
    | .ok (r, p) =>
      match resolveOperands limit src cs p with
      | .error f => .error f
      | .ok (rs, q) => .ok (r :: rs, q)

end Sys2Proof.Machine
end

