-- ==== Sys2Proof/Machine/Ops.lean ====
section
/-! DEFINITION. The shared operations of the engine: reading MEM, the bound of the opcode field, placing a record in the
output holding register, taking a fault (60_exceptions R306) and leaving it by a new run (42_decode_loop R240), and the
one operation every instruction's meaning is: fetch the opcode, decode the operands in order, emit (42 R248). -/
namespace Sys2Proof.Machine

/-- MEM as the bytes the engine fetches from (20_memory R80, R86). -/
def State.source (s : State) : Source := ⟨s.params.memSize, s.mem.read⟩

/-- Register `x[i]`; `x[15]` is the program counter (10_state R41, R44). -/
def State.reg (s : State) (i : RegNo) : Nat :=
  if h : i.toNat < 15 then (s.x[i.toNat]).toNat else s.pc

/-- The one or two one-byte fetches of an opcode field of width `cw` at `a`, as far as they can fault; answers the
address after it (40_opcode_fetch R171, R172; 20_memory R89). -/
def checkOpcode (size a cw : Nat) : Except DecodeFault Nat :=
  match checkRead size a 1 with
  | .error f => .error f
  | .ok p => if cw = 2 then checkRead size p 1 else .ok p

/-- The free value that FAULT_ADDR takes where no rule states it, in a run over this MEM, CSEG_SIZE and parameters, OPTABLE
and MEM as maps (log entry 5; 42_decode_loop R250). -/
def State.freeFaultAddr (s : State) : BitVec 32 :=
  Config.freeFaultAddr s.params.memSize s.params.escapeByte s.params.indexChainLimit s.params.optable s.mem.read
    s.csegSize

/-- FAULT_ADDR for an address: the address in 32 bits. An address of 2^32 or more has no stated value: the free one,
log entry 5. -/
def faultAddrWord (free : BitVec 32) (addr : Nat) : BitVec 32 :=
  if addr < 2 ^ 32 then BitVec.ofNat 32 addr else free

/-- STATUS.CAUSE and the fault registers of a fault in the instruction that starts at `start` (60_exceptions R301);
`free` is FAULT_ADDR where no rule states it. -/
def faultRegsOf (free : BitVec 32) (start : Nat) (f : InstrFault) : FaultRegs :=
  let regs : FaultRegs :=
    { FaultRegs.clear with start := BitVec.ofNat 32 start, cp := f.cp.getD 0, cpv := f.cp.isSome }
  match f.fault with
  | .oob addr size => { regs with cause := .oob, addr := faultAddrWord free addr, size := BitVec.ofNat 5 size }
  | .badTag addr code => { regs with cause := .badTag, addr := faultAddrWord free addr, tag := code }
  | .indexChain addr => { regs with cause := .indexChain, addr := faultAddrWord free addr, size := 1 }

/-- Taking a fault in the instruction that starts at `start` (60_exceptions R306): the cause and fault registers are
written, the partial instruction is discarded (log entry 6), no record is placed, the phase becomes FAULT. `pc` has no
defined value after it: a free one that keeps 10_state R48 (log entry 4). -/
def State.takeFault (s : State) (start : Nat) (f : InstrFault) : State :=
  { s with
    faultRegs := faultRegsOf s.freeFaultAddr start f
    phase     := .fault
    pc        := (Config.freePc s.freeCount).toNat % (s.params.memSize + 1)
    freeCount := s.freeCount + 1
    start     := 0
    cp        := 0
    cw        := 1
    desc      := none
    k         := 0
    ops       := [] }

/-- The start of a run (42_decode_loop R240), which is also the one way out of FAULT besides reset (60_exceptions R308).
`accepted` begins anew (log entry 10). -/
def State.startRun (s : State) : State :=
  { s with pc := 0, faultRegs := FaultRegs.clear, out := none, phase := .fetchOpcode, accepted := [] }

/-- The record of an instruction over MEM: its bytes are `MEM[start .. stop-1]` (42_decode_loop R251). -/
def recordOver (mem : Memory) (start stop : Nat) (cp : Codepoint) (cw : Nat) (mnemonic : Option String)
    (ops : List OperandRecord) : Record :=
  { start := start, stop := stop, bytes := mem.slice start (stop - start),
    kind := if mnemonic.isSome then .known else .unknown, cp := cp, cw := cw, mnemonic := mnemonic, ops := ops }

/-- EMIT of the instruction at `pc`, which ends at `stop`: its record in the output holding register, `pc` at its end,
and the control state of the instruction just decoded (42_decode_loop R243, 10_state R46, R55). -/
def State.present (s : State) (stop : Nat) (cp : Codepoint) (cw : Nat) (desc : Option Descriptor)
    (ops : List OperandRecord) : State :=
  { s with
    pc    := stop
    phase := .emit
    start := s.pc
    cp    := cp
    cw    := cw
    desc  := desc
    k     := ops.length
    ops   := ops
    out   := some (recordOver s.mem s.pc stop cp cw (desc.map Descriptor.mnemonic) ops) }

/-- The instruction at `pc` whose codepoint has the descriptor `d`: opcode fetch, operands in order, EMIT, or the first
fault (42_decode_loop R248, R242, R243). -/
def State.runRow (s : State) (cp : Codepoint) (cw : Nat) (d : Descriptor) : State :=
  match checkOpcode s.params.memSize s.pc cw with
  | .error f => s.takeFault s.pc ⟨f, none⟩
  | .ok p =>
    match resolveOperands s.params.indexChainLimit s.source d.tags p with
    | .error f => s.takeFault s.pc ⟨f, some cp⟩
    | .ok (ops, q) => s.present q cp cw (some d) ops

/-- An instruction of the default table: `runRow` with its row's mnemonic and tags. -/
def State.runInstr (s : State) (cp : Codepoint) (cw : Nat) (mnemonic : String) (tags : List Tag) : State :=
  s.runRow cp cw ⟨mnemonic, tags.map Tag.code⟩

/-- An unknown instruction: its opcode field alone, emitted with no operand (40_opcode_fetch R175). -/
def State.runUnknown (s : State) (cp : Codepoint) (cw : Nat) : State :=
  match checkOpcode s.params.memSize s.pc cw with
  | .error f => s.takeFault s.pc ⟨f, none⟩
  | .ok p => s.present p cp cw none []

/-- The record the control state holds in EMIT (42_decode_loop R243). -/
def State.formRecord (s : State) : Record :=
  recordOver s.mem s.start s.pc s.cp s.cw (s.desc.map Descriptor.mnemonic) s.ops

/-- The consumer accepts the record held (42_decode_loop R254): the engine enters FETCH_OPCODE at the current `pc`
(R243). -/
def State.accept (s : State) (r : Record) : State :=
  { s with out := none, phase := .fetchOpcode, accepted := s.accepted ++ [r] }

end Sys2Proof.Machine
end

