-- ==== Sys2Proof/Machine/BitFieldCall.lean ====
section
/-! DEFINITION. The meanings of codepoints 0xE0 to 0xFF: bit branches, bit fields, loop control, conversions, calls, XFC (rules R1224 to R1252). Each fetches its opcode,
decodes its operands in order under its row's tags and emits its record (42_decode_loop R248); the block does not
execute (00_scope R3). -/
namespace Sys2Proof.Machine

/-- R1224 `BBS`, codepoint 0xE0; operands: LONG, BYTE, BDISP8. -/
def execBbs (s : State) : Host.Outcome State Fault Refusal :=
  .next (s.runInstr 0xE0 1 "BBS" [.long, .byte, .bdisp8])

/-- R1225 `BBC`, codepoint 0xE1; operands: LONG, BYTE, BDISP8. -/
def execBbc (s : State) : Host.Outcome State Fault Refusal :=
  .next (s.runInstr 0xE1 1 "BBC" [.long, .byte, .bdisp8])

/-- R1226 `BBSS`, codepoint 0xE2; operands: LONG, BYTE, BDISP8. -/
def execBbss (s : State) : Host.Outcome State Fault Refusal :=
  .next (s.runInstr 0xE2 1 "BBSS" [.long, .byte, .bdisp8])

/-- R1227 `BBCS`, codepoint 0xE3; operands: LONG, BYTE, BDISP8. -/
def execBbcs (s : State) : Host.Outcome State Fault Refusal :=
  .next (s.runInstr 0xE3 1 "BBCS" [.long, .byte, .bdisp8])

/-- R1228 `BBSC`, codepoint 0xE4; operands: LONG, BYTE, BDISP8. -/
def execBbsc (s : State) : Host.Outcome State Fault Refusal :=
  .next (s.runInstr 0xE4 1 "BBSC" [.long, .byte, .bdisp8])

/-- R1229 `BBCC`, codepoint 0xE5; operands: LONG, BYTE, BDISP8. -/
def execBbcc (s : State) : Host.Outcome State Fault Refusal :=
  .next (s.runInstr 0xE5 1 "BBCC" [.long, .byte, .bdisp8])

/-- R1230 `BBSSI`, codepoint 0xE6; operands: LONG, BYTE, BDISP8. -/
def execBbssi (s : State) : Host.Outcome State Fault Refusal :=
  .next (s.runInstr 0xE6 1 "BBSSI" [.long, .byte, .bdisp8])

/-- R1231 `BBCCI`, codepoint 0xE7; operands: LONG, BYTE, BDISP8. -/
def execBbcci (s : State) : Host.Outcome State Fault Refusal :=
  .next (s.runInstr 0xE7 1 "BBCCI" [.long, .byte, .bdisp8])

/-- R1232 `BLBS`, codepoint 0xE8; operands: LONG, BDISP8. -/
def execBlbs (s : State) : Host.Outcome State Fault Refusal :=
  .next (s.runInstr 0xE8 1 "BLBS" [.long, .bdisp8])

/-- R1233 `BLBC`, codepoint 0xE9; operands: LONG, BDISP8. -/
def execBlbc (s : State) : Host.Outcome State Fault Refusal :=
  .next (s.runInstr 0xE9 1 "BLBC" [.long, .bdisp8])

/-- R1234 `FFS`, codepoint 0xEA; operands: LONG, BYTE, BYTE, LONG. -/
def execFfs (s : State) : Host.Outcome State Fault Refusal :=
  .next (s.runInstr 0xEA 1 "FFS" [.long, .byte, .byte, .long])

/-- R1235 `FFC`, codepoint 0xEB; operands: LONG, BYTE, BYTE, LONG. -/
def execFfc (s : State) : Host.Outcome State Fault Refusal :=
  .next (s.runInstr 0xEB 1 "FFC" [.long, .byte, .byte, .long])

/-- R1236 `CMPV`, codepoint 0xEC; operands: LONG, BYTE, BYTE, LONG. -/
def execCmpv (s : State) : Host.Outcome State Fault Refusal :=
  .next (s.runInstr 0xEC 1 "CMPV" [.long, .byte, .byte, .long])

/-- R1237 `CMPZV`, codepoint 0xED; operands: LONG, BYTE, BYTE, LONG. -/
def execCmpzv (s : State) : Host.Outcome State Fault Refusal :=
  .next (s.runInstr 0xED 1 "CMPZV" [.long, .byte, .byte, .long])

/-- R1238 `EXTV`, codepoint 0xEE; operands: LONG, BYTE, BYTE, LONG. -/
def execExtv (s : State) : Host.Outcome State Fault Refusal :=
  .next (s.runInstr 0xEE 1 "EXTV" [.long, .byte, .byte, .long])

/-- R1239 `EXTZV`, codepoint 0xEF; operands: LONG, BYTE, BYTE, LONG. -/
def execExtzv (s : State) : Host.Outcome State Fault Refusal :=
  .next (s.runInstr 0xEF 1 "EXTZV" [.long, .byte, .byte, .long])

/-- R1240 `INSV`, codepoint 0xF0; operands: LONG, LONG, BYTE, BYTE. -/
def execInsv (s : State) : Host.Outcome State Fault Refusal :=
  .next (s.runInstr 0xF0 1 "INSV" [.long, .long, .byte, .byte])

/-- R1241 `ACBL`, codepoint 0xF1; operands: LONG, LONG, LONG, BDISP16. -/
def execAcbl (s : State) : Host.Outcome State Fault Refusal :=
  .next (s.runInstr 0xF1 1 "ACBL" [.long, .long, .long, .bdisp16])

/-- R1242 `AOBLSS`, codepoint 0xF2; operands: LONG, LONG, BDISP8. -/
def execAoblss (s : State) : Host.Outcome State Fault Refusal :=
  .next (s.runInstr 0xF2 1 "AOBLSS" [.long, .long, .bdisp8])

/-- R1243 `AOBLEQ`, codepoint 0xF3; operands: LONG, LONG, BDISP8. -/
def execAobleq (s : State) : Host.Outcome State Fault Refusal :=
  .next (s.runInstr 0xF3 1 "AOBLEQ" [.long, .long, .bdisp8])

/-- R1244 `SOBGEQ`, codepoint 0xF4; operands: LONG, BDISP8. -/
def execSobgeq (s : State) : Host.Outcome State Fault Refusal :=
  .next (s.runInstr 0xF4 1 "SOBGEQ" [.long, .bdisp8])

/-- R1245 `SOBGTR`, codepoint 0xF5; operands: LONG, BDISP8. -/
def execSobgtr (s : State) : Host.Outcome State Fault Refusal :=
  .next (s.runInstr 0xF5 1 "SOBGTR" [.long, .bdisp8])

/-- R1246 `CVTLB`, codepoint 0xF6; operands: LONG, BYTE. -/
def execCvtlb (s : State) : Host.Outcome State Fault Refusal :=
  .next (s.runInstr 0xF6 1 "CVTLB" [.long, .byte])

/-- R1247 `CVTLW`, codepoint 0xF7; operands: LONG, WORD. -/
def execCvtlw (s : State) : Host.Outcome State Fault Refusal :=
  .next (s.runInstr 0xF7 1 "CVTLW" [.long, .word])

/-- R1248 `ASHP`, codepoint 0xF8; operands: BYTE, WORD, BYTE, BYTE, WORD, BYTE. -/
def execAshp (s : State) : Host.Outcome State Fault Refusal :=
  .next (s.runInstr 0xF8 1 "ASHP" [.byte, .word, .byte, .byte, .word, .byte])

/-- R1249 `CVTLP`, codepoint 0xF9; operands: LONG, WORD, BYTE. -/
def execCvtlp (s : State) : Host.Outcome State Fault Refusal :=
  .next (s.runInstr 0xF9 1 "CVTLP" [.long, .word, .byte])

/-- R1250 `CALLG`, codepoint 0xFA; operands: BYTE, BYTE. -/
def execCallg (s : State) : Host.Outcome State Fault Refusal :=
  .next (s.runInstr 0xFA 1 "CALLG" [.byte, .byte])

/-- R1251 `CALLS`, codepoint 0xFB; operands: LONG, BYTE. -/
def execCalls (s : State) : Host.Outcome State Fault Refusal :=
  .next (s.runInstr 0xFB 1 "CALLS" [.long, .byte])

/-- R1252 `XFC`, codepoint 0xFC; operands: none. -/
def execXfc (s : State) : Host.Outcome State Fault Refusal :=
  .next (s.runInstr 0xFC 1 "XFC" [])

end Sys2Proof.Machine
end

