-- ==== Sys2Proof/Machine/ByteBranch.lean ====
section
/-! DEFINITION. The meanings of codepoints 0x10 to 0x1F: byte-displacement branches, JSB and JMP (rules R1016 to R1031). Each fetches its opcode,
decodes its operands in order under its row's tags and emits its record (42_decode_loop R248); the block does not
execute (00_scope R3). -/
namespace Sys2Proof.Machine

/-- R1016 `BSBB`, codepoint 0x10; operands: BDISP8. -/
def execBsbb (s : State) : Host.Outcome State Fault Refusal :=
  .next (s.runInstr 0x10 1 "BSBB" [.bdisp8])

/-- R1017 `BRB`, codepoint 0x11; operands: BDISP8. -/
def execBrb (s : State) : Host.Outcome State Fault Refusal :=
  .next (s.runInstr 0x11 1 "BRB" [.bdisp8])

/-- R1018 `BNEQ`, codepoint 0x12; operands: BDISP8. -/
def execBneq (s : State) : Host.Outcome State Fault Refusal :=
  .next (s.runInstr 0x12 1 "BNEQ" [.bdisp8])

/-- R1019 `BEQL`, codepoint 0x13; operands: BDISP8. -/
def execBeql (s : State) : Host.Outcome State Fault Refusal :=
  .next (s.runInstr 0x13 1 "BEQL" [.bdisp8])

/-- R1020 `BGTR`, codepoint 0x14; operands: BDISP8. -/
def execBgtr (s : State) : Host.Outcome State Fault Refusal :=
  .next (s.runInstr 0x14 1 "BGTR" [.bdisp8])

/-- R1021 `BLEQ`, codepoint 0x15; operands: BDISP8. -/
def execBleq (s : State) : Host.Outcome State Fault Refusal :=
  .next (s.runInstr 0x15 1 "BLEQ" [.bdisp8])

/-- R1022 `JSB`, codepoint 0x16; operands: BYTE. -/
def execJsb (s : State) : Host.Outcome State Fault Refusal :=
  .next (s.runInstr 0x16 1 "JSB" [.byte])

/-- R1023 `JMP`, codepoint 0x17; operands: BYTE. -/
def execJmp (s : State) : Host.Outcome State Fault Refusal :=
  .next (s.runInstr 0x17 1 "JMP" [.byte])

/-- R1024 `BGEQ`, codepoint 0x18; operands: BDISP8. -/
def execBgeq (s : State) : Host.Outcome State Fault Refusal :=
  .next (s.runInstr 0x18 1 "BGEQ" [.bdisp8])

/-- R1025 `BLSS`, codepoint 0x19; operands: BDISP8. -/
def execBlss (s : State) : Host.Outcome State Fault Refusal :=
  .next (s.runInstr 0x19 1 "BLSS" [.bdisp8])

/-- R1026 `BGTRU`, codepoint 0x1A; operands: BDISP8. -/
def execBgtru (s : State) : Host.Outcome State Fault Refusal :=
  .next (s.runInstr 0x1A 1 "BGTRU" [.bdisp8])

/-- R1027 `BLEQU`, codepoint 0x1B; operands: BDISP8. -/
def execBlequ (s : State) : Host.Outcome State Fault Refusal :=
  .next (s.runInstr 0x1B 1 "BLEQU" [.bdisp8])

/-- R1028 `BVC`, codepoint 0x1C; operands: BDISP8. -/
def execBvc (s : State) : Host.Outcome State Fault Refusal :=
  .next (s.runInstr 0x1C 1 "BVC" [.bdisp8])

/-- R1029 `BVS`, codepoint 0x1D; operands: BDISP8. -/
def execBvs (s : State) : Host.Outcome State Fault Refusal :=
  .next (s.runInstr 0x1D 1 "BVS" [.bdisp8])

/-- R1030 `BGEQU`, codepoint 0x1E; operands: BDISP8. -/
def execBgequ (s : State) : Host.Outcome State Fault Refusal :=
  .next (s.runInstr 0x1E 1 "BGEQU" [.bdisp8])

/-- R1031 `BLSSU`, codepoint 0x1F; operands: BDISP8. -/
def execBlssu (s : State) : Host.Outcome State Fault Refusal :=
  .next (s.runInstr 0x1F 1 "BLSSU" [.bdisp8])

end Sys2Proof.Machine
end

