-- ==== Sys2Proof/Machine/ByteInteger.lean ====
section
/-! DEFINITION. The meanings of codepoints 0x80 to 0x9F: byte integer instructions (rules R1128 to R1159). Each fetches its opcode,
decodes its operands in order under its row's tags and emits its record (42_decode_loop R248); the block does not
execute (00_scope R3). -/
namespace Sys2Proof.Machine

/-- R1128 `ADDB2`, codepoint 0x80; operands: BYTE, BYTE. -/
def execAddb2 (s : State) : Host.Outcome State Fault Refusal :=
  .next (s.runInstr 0x80 1 "ADDB2" [.byte, .byte])

/-- R1129 `ADDB3`, codepoint 0x81; operands: BYTE, BYTE, BYTE. -/
def execAddb3 (s : State) : Host.Outcome State Fault Refusal :=
  .next (s.runInstr 0x81 1 "ADDB3" [.byte, .byte, .byte])

/-- R1130 `SUBB2`, codepoint 0x82; operands: BYTE, BYTE. -/
def execSubb2 (s : State) : Host.Outcome State Fault Refusal :=
  .next (s.runInstr 0x82 1 "SUBB2" [.byte, .byte])

/-- R1131 `SUBB3`, codepoint 0x83; operands: BYTE, BYTE, BYTE. -/
def execSubb3 (s : State) : Host.Outcome State Fault Refusal :=
  .next (s.runInstr 0x83 1 "SUBB3" [.byte, .byte, .byte])

/-- R1132 `MULB2`, codepoint 0x84; operands: BYTE, BYTE. -/
def execMulb2 (s : State) : Host.Outcome State Fault Refusal :=
  .next (s.runInstr 0x84 1 "MULB2" [.byte, .byte])

/-- R1133 `MULB3`, codepoint 0x85; operands: BYTE, BYTE, BYTE. -/
def execMulb3 (s : State) : Host.Outcome State Fault Refusal :=
  .next (s.runInstr 0x85 1 "MULB3" [.byte, .byte, .byte])

/-- R1134 `DIVB2`, codepoint 0x86; operands: BYTE, BYTE. -/
def execDivb2 (s : State) : Host.Outcome State Fault Refusal :=
  .next (s.runInstr 0x86 1 "DIVB2" [.byte, .byte])

/-- R1135 `DIVB3`, codepoint 0x87; operands: BYTE, BYTE, BYTE. -/
def execDivb3 (s : State) : Host.Outcome State Fault Refusal :=
  .next (s.runInstr 0x87 1 "DIVB3" [.byte, .byte, .byte])

/-- R1136 `BISB2`, codepoint 0x88; operands: BYTE, BYTE. -/
def execBisb2 (s : State) : Host.Outcome State Fault Refusal :=
  .next (s.runInstr 0x88 1 "BISB2" [.byte, .byte])

/-- R1137 `BISB3`, codepoint 0x89; operands: BYTE, BYTE, BYTE. -/
def execBisb3 (s : State) : Host.Outcome State Fault Refusal :=
  .next (s.runInstr 0x89 1 "BISB3" [.byte, .byte, .byte])

/-- R1138 `BICB2`, codepoint 0x8A; operands: BYTE, BYTE. -/
def execBicb2 (s : State) : Host.Outcome State Fault Refusal :=
  .next (s.runInstr 0x8A 1 "BICB2" [.byte, .byte])

/-- R1139 `BICB3`, codepoint 0x8B; operands: BYTE, BYTE, BYTE. -/
def execBicb3 (s : State) : Host.Outcome State Fault Refusal :=
  .next (s.runInstr 0x8B 1 "BICB3" [.byte, .byte, .byte])

/-- R1140 `XORB2`, codepoint 0x8C; operands: BYTE, BYTE. -/
def execXorb2 (s : State) : Host.Outcome State Fault Refusal :=
  .next (s.runInstr 0x8C 1 "XORB2" [.byte, .byte])

/-- R1141 `XORB3`, codepoint 0x8D; operands: BYTE, BYTE, BYTE. -/
def execXorb3 (s : State) : Host.Outcome State Fault Refusal :=
  .next (s.runInstr 0x8D 1 "XORB3" [.byte, .byte, .byte])

/-- R1142 `MNEGB`, codepoint 0x8E; operands: BYTE, BYTE. -/
def execMnegb (s : State) : Host.Outcome State Fault Refusal :=
  .next (s.runInstr 0x8E 1 "MNEGB" [.byte, .byte])

/-- R1143 `CASEB`, codepoint 0x8F; operands: BYTE, BYTE, BYTE. -/
def execCaseb (s : State) : Host.Outcome State Fault Refusal :=
  .next (s.runInstr 0x8F 1 "CASEB" [.byte, .byte, .byte])

/-- R1144 `MOVB`, codepoint 0x90; operands: BYTE, BYTE. -/
def execMovb (s : State) : Host.Outcome State Fault Refusal :=
  .next (s.runInstr 0x90 1 "MOVB" [.byte, .byte])

/-- R1145 `CMPB`, codepoint 0x91; operands: BYTE, BYTE. -/
def execCmpb (s : State) : Host.Outcome State Fault Refusal :=
  .next (s.runInstr 0x91 1 "CMPB" [.byte, .byte])

/-- R1146 `MCOMB`, codepoint 0x92; operands: BYTE, BYTE. -/
def execMcomb (s : State) : Host.Outcome State Fault Refusal :=
  .next (s.runInstr 0x92 1 "MCOMB" [.byte, .byte])

/-- R1147 `BITB`, codepoint 0x93; operands: BYTE, BYTE. -/
def execBitb (s : State) : Host.Outcome State Fault Refusal :=
  .next (s.runInstr 0x93 1 "BITB" [.byte, .byte])

/-- R1148 `CLRB`, codepoint 0x94; operands: BYTE. -/
def execClrb (s : State) : Host.Outcome State Fault Refusal :=
  .next (s.runInstr 0x94 1 "CLRB" [.byte])

/-- R1149 `TSTB`, codepoint 0x95; operands: BYTE. -/
def execTstb (s : State) : Host.Outcome State Fault Refusal :=
  .next (s.runInstr 0x95 1 "TSTB" [.byte])

/-- R1150 `INCB`, codepoint 0x96; operands: BYTE. -/
def execIncb (s : State) : Host.Outcome State Fault Refusal :=
  .next (s.runInstr 0x96 1 "INCB" [.byte])

/-- R1151 `DECB`, codepoint 0x97; operands: BYTE. -/
def execDecb (s : State) : Host.Outcome State Fault Refusal :=
  .next (s.runInstr 0x97 1 "DECB" [.byte])

/-- R1152 `CVTBL`, codepoint 0x98; operands: BYTE, LONG. -/
def execCvtbl (s : State) : Host.Outcome State Fault Refusal :=
  .next (s.runInstr 0x98 1 "CVTBL" [.byte, .long])

/-- R1153 `CVTBW`, codepoint 0x99; operands: BYTE, WORD. -/
def execCvtbw (s : State) : Host.Outcome State Fault Refusal :=
  .next (s.runInstr 0x99 1 "CVTBW" [.byte, .word])

/-- R1154 `MOVZBL`, codepoint 0x9A; operands: BYTE, LONG. -/
def execMovzbl (s : State) : Host.Outcome State Fault Refusal :=
  .next (s.runInstr 0x9A 1 "MOVZBL" [.byte, .long])

/-- R1155 `MOVZBW`, codepoint 0x9B; operands: BYTE, WORD. -/
def execMovzbw (s : State) : Host.Outcome State Fault Refusal :=
  .next (s.runInstr 0x9B 1 "MOVZBW" [.byte, .word])

/-- R1156 `ROTL`, codepoint 0x9C; operands: BYTE, LONG, LONG. -/
def execRotl (s : State) : Host.Outcome State Fault Refusal :=
  .next (s.runInstr 0x9C 1 "ROTL" [.byte, .long, .long])

/-- R1157 `ACBB`, codepoint 0x9D; operands: BYTE, BYTE, BYTE, BDISP16. -/
def execAcbb (s : State) : Host.Outcome State Fault Refusal :=
  .next (s.runInstr 0x9D 1 "ACBB" [.byte, .byte, .byte, .bdisp16])

/-- R1158 `MOVAB`, codepoint 0x9E; operands: BYTE, LONG. -/
def execMovab (s : State) : Host.Outcome State Fault Refusal :=
  .next (s.runInstr 0x9E 1 "MOVAB" [.byte, .long])

/-- R1159 `PUSHAB`, codepoint 0x9F; operands: BYTE. -/
def execPushab (s : State) : Host.Outcome State Fault Refusal :=
  .next (s.runInstr 0x9F 1 "PUSHAB" [.byte])

end Sys2Proof.Machine
end

