-- ==== Sys2Proof/Machine/CrossFH.lean ====
section
/-! DEFINITION. The meanings of codepoints 0xFD80 to 0xFDFF: conversions from F and H (rules R2152 to R2247). Each fetches its opcode,
decodes its operands in order under its row's tags and emits its record (42_decode_loop R248); the block does not
execute (00_scope R3). -/
namespace Sys2Proof.Machine

/-- R2152 `CVTFH`, codepoint 0xFD98; operands: F_FLOAT, H_FLOAT. -/
def execCvtfh (s : State) : Host.Outcome State Fault Refusal :=
  .next (s.runInstr 0xFD98 2 "CVTFH" [.fFloat, .hFloat])

/-- R2153 `CVTFG`, codepoint 0xFD99; operands: F_FLOAT, G_FLOAT. -/
def execCvtfg (s : State) : Host.Outcome State Fault Refusal :=
  .next (s.runInstr 0xFD99 2 "CVTFG" [.fFloat, .gFloat])

/-- R2246 `CVTHF`, codepoint 0xFDF6; operands: H_FLOAT, F_FLOAT. -/
def execCvthf (s : State) : Host.Outcome State Fault Refusal :=
  .next (s.runInstr 0xFDF6 2 "CVTHF" [.hFloat, .fFloat])

/-- R2247 `CVTHD`, codepoint 0xFDF7; operands: H_FLOAT, D_FLOAT. -/
def execCvthd (s : State) : Host.Outcome State Fault Refusal :=
  .next (s.runInstr 0xFDF7 2 "CVTHD" [.hFloat, .dFloat])

end Sys2Proof.Machine
end

