-- ==== Sys2Proof/Machine/CrossGH.lean ====
section
/-! DEFINITION. The meanings of codepoints 0xFD00 to 0xFD3F: cross-format conversions to and from G and H (rules R2050 to R2051). Each fetches its opcode,
decodes its operands in order under its row's tags and emits its record (42_decode_loop R248); the block does not
execute (00_scope R3). -/
namespace Sys2Proof.Machine

/-- R2050 `CVTDH`, codepoint 0xFD32; operands: D_FLOAT, H_FLOAT. -/
def execCvtdh (s : State) : Host.Outcome State Fault Refusal :=
  .next (s.runInstr 0xFD32 2 "CVTDH" [.dFloat, .hFloat])

/-- R2051 `CVTGF`, codepoint 0xFD33; operands: G_FLOAT, F_FLOAT. -/
def execCvtgf (s : State) : Host.Outcome State Fault Refusal :=
  .next (s.runInstr 0xFD33 2 "CVTGF" [.gFloat, .fFloat])

end Sys2Proof.Machine
end

