-- ==== Sys2Proof/Machine/DFloating.lean ====
section
/-! DEFINITION. The meanings of codepoints 0x60 to 0x76: D_floating instructions (rules R1096 to R1118). Each fetches its opcode,
decodes its operands in order under its row's tags and emits its record (42_decode_loop R248); the block does not
execute (00_scope R3). -/
namespace Sys2Proof.Machine

/-- R1096 `ADDD2`, codepoint 0x60; operands: D_FLOAT, D_FLOAT. -/
def execAddd2 (s : State) : Host.Outcome State Fault Refusal :=
  .next (s.runInstr 0x60 1 "ADDD2" [.dFloat, .dFloat])

/-- R1097 `ADDD3`, codepoint 0x61; operands: D_FLOAT, D_FLOAT, D_FLOAT. -/
def execAddd3 (s : State) : Host.Outcome State Fault Refusal :=
  .next (s.runInstr 0x61 1 "ADDD3" [.dFloat, .dFloat, .dFloat])

/-- R1098 `SUBD2`, codepoint 0x62; operands: D_FLOAT, D_FLOAT. -/
def execSubd2 (s : State) : Host.Outcome State Fault Refusal :=
  .next (s.runInstr 0x62 1 "SUBD2" [.dFloat, .dFloat])

/-- R1099 `SUBD3`, codepoint 0x63; operands: D_FLOAT, D_FLOAT, D_FLOAT. -/
def execSubd3 (s : State) : Host.Outcome State Fault Refusal :=
  .next (s.runInstr 0x63 1 "SUBD3" [.dFloat, .dFloat, .dFloat])

/-- R1100 `MULD2`, codepoint 0x64; operands: D_FLOAT, D_FLOAT. -/
def execMuld2 (s : State) : Host.Outcome State Fault Refusal :=
  .next (s.runInstr 0x64 1 "MULD2" [.dFloat, .dFloat])

/-- R1101 `MULD3`, codepoint 0x65; operands: D_FLOAT, D_FLOAT, D_FLOAT. -/
def execMuld3 (s : State) : Host.Outcome State Fault Refusal :=
  .next (s.runInstr 0x65 1 "MULD3" [.dFloat, .dFloat, .dFloat])

/-- R1102 `DIVD2`, codepoint 0x66; operands: D_FLOAT, D_FLOAT. -/
def execDivd2 (s : State) : Host.Outcome State Fault Refusal :=
  .next (s.runInstr 0x66 1 "DIVD2" [.dFloat, .dFloat])

/-- R1103 `DIVD3`, codepoint 0x67; operands: D_FLOAT, D_FLOAT, D_FLOAT. -/
def execDivd3 (s : State) : Host.Outcome State Fault Refusal :=
  .next (s.runInstr 0x67 1 "DIVD3" [.dFloat, .dFloat, .dFloat])

/-- R1104 `CVTDB`, codepoint 0x68; operands: D_FLOAT, BYTE. -/
def execCvtdb (s : State) : Host.Outcome State Fault Refusal :=
  .next (s.runInstr 0x68 1 "CVTDB" [.dFloat, .byte])

/-- R1105 `CVTDW`, codepoint 0x69; operands: D_FLOAT, WORD. -/
def execCvtdw (s : State) : Host.Outcome State Fault Refusal :=
  .next (s.runInstr 0x69 1 "CVTDW" [.dFloat, .word])

/-- R1106 `CVTDL`, codepoint 0x6A; operands: D_FLOAT, LONG. -/
def execCvtdl (s : State) : Host.Outcome State Fault Refusal :=
  .next (s.runInstr 0x6A 1 "CVTDL" [.dFloat, .long])

/-- R1107 `CVTRDL`, codepoint 0x6B; operands: D_FLOAT, LONG. -/
def execCvtrdl (s : State) : Host.Outcome State Fault Refusal :=
  .next (s.runInstr 0x6B 1 "CVTRDL" [.dFloat, .long])

/-- R1108 `CVTBD`, codepoint 0x6C; operands: BYTE, D_FLOAT. -/
def execCvtbd (s : State) : Host.Outcome State Fault Refusal :=
  .next (s.runInstr 0x6C 1 "CVTBD" [.byte, .dFloat])

/-- R1109 `CVTWD`, codepoint 0x6D; operands: WORD, D_FLOAT. -/
def execCvtwd (s : State) : Host.Outcome State Fault Refusal :=
  .next (s.runInstr 0x6D 1 "CVTWD" [.word, .dFloat])

/-- R1110 `CVTLD`, codepoint 0x6E; operands: LONG, D_FLOAT. -/
def execCvtld (s : State) : Host.Outcome State Fault Refusal :=
  .next (s.runInstr 0x6E 1 "CVTLD" [.long, .dFloat])

/-- R1111 `ACBD`, codepoint 0x6F; operands: D_FLOAT, D_FLOAT, D_FLOAT, BDISP16. -/
def execAcbd (s : State) : Host.Outcome State Fault Refusal :=
  .next (s.runInstr 0x6F 1 "ACBD" [.dFloat, .dFloat, .dFloat, .bdisp16])

/-- R1112 `MOVD`, codepoint 0x70; operands: D_FLOAT, D_FLOAT. -/
def execMovd (s : State) : Host.Outcome State Fault Refusal :=
  .next (s.runInstr 0x70 1 "MOVD" [.dFloat, .dFloat])

/-- R1113 `CMPD`, codepoint 0x71; operands: D_FLOAT, D_FLOAT. -/
def execCmpd (s : State) : Host.Outcome State Fault Refusal :=
  .next (s.runInstr 0x71 1 "CMPD" [.dFloat, .dFloat])

/-- R1114 `MNEGD`, codepoint 0x72; operands: D_FLOAT, D_FLOAT. -/
def execMnegd (s : State) : Host.Outcome State Fault Refusal :=
  .next (s.runInstr 0x72 1 "MNEGD" [.dFloat, .dFloat])

/-- R1115 `TSTD`, codepoint 0x73; operands: D_FLOAT. -/
def execTstd (s : State) : Host.Outcome State Fault Refusal :=
  .next (s.runInstr 0x73 1 "TSTD" [.dFloat])

/-- R1116 `EMODD`, codepoint 0x74; operands: D_FLOAT, BYTE, D_FLOAT, LONG, D_FLOAT. -/
def execEmodd (s : State) : Host.Outcome State Fault Refusal :=
  .next (s.runInstr 0x74 1 "EMODD" [.dFloat, .byte, .dFloat, .long, .dFloat])

/-- R1117 `POLYD`, codepoint 0x75; operands: D_FLOAT, WORD, BYTE. -/
def execPolyd (s : State) : Host.Outcome State Fault Refusal :=
  .next (s.runInstr 0x75 1 "POLYD" [.dFloat, .word, .byte])

/-- R1118 `CVTDF`, codepoint 0x76; operands: D_FLOAT, F_FLOAT. -/
def execCvtdf (s : State) : Host.Outcome State Fault Refusal :=
  .next (s.runInstr 0x76 1 "CVTDF" [.dFloat, .fFloat])

end Sys2Proof.Machine
end

