-- ==== Sys2Proof/Machine/DecimalQueue.lean ====
section
/-! DEFINITION. The meanings of codepoints 0x08 to 0x0F: decimal string conversion, INDEX, CRC, probe and queue instructions (rules R1008 to R1015). Each fetches its opcode,
decodes its operands in order under its row's tags and emits its record (42_decode_loop R248); the block does not
execute (00_scope R3). -/
namespace Sys2Proof.Machine

/-- R1008 `CVTPS`, codepoint 0x08; operands: WORD, BYTE, WORD, BYTE. -/
def execCvtps (s : State) : Host.Outcome State Fault Refusal :=
  .next (s.runInstr 0x08 1 "CVTPS" [.word, .byte, .word, .byte])

/-- R1009 `CVTSP`, codepoint 0x09; operands: WORD, BYTE, WORD, BYTE. -/
def execCvtsp (s : State) : Host.Outcome State Fault Refusal :=
  .next (s.runInstr 0x09 1 "CVTSP" [.word, .byte, .word, .byte])

/-- R1010 `INDEX`, codepoint 0x0A; operands: LONG, LONG, LONG, LONG, LONG, LONG. -/
def execIndex (s : State) : Host.Outcome State Fault Refusal :=
  .next (s.runInstr 0x0A 1 "INDEX" [.long, .long, .long, .long, .long, .long])

/-- R1011 `CRC`, codepoint 0x0B; operands: BYTE, LONG, WORD, BYTE. -/
def execCrc (s : State) : Host.Outcome State Fault Refusal :=
  .next (s.runInstr 0x0B 1 "CRC" [.byte, .long, .word, .byte])

/-- R1012 `PROBER`, codepoint 0x0C; operands: BYTE, WORD, BYTE. -/
def execProber (s : State) : Host.Outcome State Fault Refusal :=
  .next (s.runInstr 0x0C 1 "PROBER" [.byte, .word, .byte])

/-- R1013 `PROBEW`, codepoint 0x0D; operands: BYTE, WORD, BYTE. -/
def execProbew (s : State) : Host.Outcome State Fault Refusal :=
  .next (s.runInstr 0x0D 1 "PROBEW" [.byte, .word, .byte])

/-- R1014 `INSQUE`, codepoint 0x0E; operands: BYTE, BYTE. -/
def execInsque (s : State) : Host.Outcome State Fault Refusal :=
  .next (s.runInstr 0x0E 1 "INSQUE" [.byte, .byte])

/-- R1015 `REMQUE`, codepoint 0x0F; operands: BYTE, LONG. -/
def execRemque (s : State) : Host.Outcome State Fault Refusal :=
  .next (s.runInstr 0x0F 1 "REMQUE" [.byte, .long])

end Sys2Proof.Machine
end

