-- ==== Sys2Proof/Machine/FFloating.lean ====
section
/-! DEFINITION. The meanings of codepoints 0x40 to 0x56: F_floating instructions (rules R1064 to R1086). Each fetches its opcode,
decodes its operands in order under its row's tags and emits its record (42_decode_loop R248); the block does not
execute (00_scope R3). -/
namespace Sys2Proof.Machine

/-- R1064 `ADDF2`, codepoint 0x40; operands: F_FLOAT, F_FLOAT. -/
def execAddf2 (s : State) : Host.Outcome State Fault Refusal :=
  .next (s.runInstr 0x40 1 "ADDF2" [.fFloat, .fFloat])

/-- R1065 `ADDF3`, codepoint 0x41; operands: F_FLOAT, F_FLOAT, F_FLOAT. -/
def execAddf3 (s : State) : Host.Outcome State Fault Refusal :=
  .next (s.runInstr 0x41 1 "ADDF3" [.fFloat, .fFloat, .fFloat])

/-- R1066 `SUBF2`, codepoint 0x42; operands: F_FLOAT, F_FLOAT. -/
def execSubf2 (s : State) : Host.Outcome State Fault Refusal :=
  .next (s.runInstr 0x42 1 "SUBF2" [.fFloat, .fFloat])

/-- R1067 `SUBF3`, codepoint 0x43; operands: F_FLOAT, F_FLOAT, F_FLOAT. -/
def execSubf3 (s : State) : Host.Outcome State Fault Refusal :=
  .next (s.runInstr 0x43 1 "SUBF3" [.fFloat, .fFloat, .fFloat])

/-- R1068 `MULF2`, codepoint 0x44; operands: F_FLOAT, F_FLOAT. -/
def execMulf2 (s : State) : Host.Outcome State Fault Refusal :=
  .next (s.runInstr 0x44 1 "MULF2" [.fFloat, .fFloat])

/-- R1069 `MULF3`, codepoint 0x45; operands: F_FLOAT, F_FLOAT, F_FLOAT. -/
def execMulf3 (s : State) : Host.Outcome State Fault Refusal :=
  .next (s.runInstr 0x45 1 "MULF3" [.fFloat, .fFloat, .fFloat])

/-- R1070 `DIVF2`, codepoint 0x46; operands: F_FLOAT, F_FLOAT. -/
def execDivf2 (s : State) : Host.Outcome State Fault Refusal :=
  .next (s.runInstr 0x46 1 "DIVF2" [.fFloat, .fFloat])

/-- R1071 `DIVF3`, codepoint 0x47; operands: F_FLOAT, F_FLOAT, F_FLOAT. -/
def execDivf3 (s : State) : Host.Outcome State Fault Refusal :=
  .next (s.runInstr 0x47 1 "DIVF3" [.fFloat, .fFloat, .fFloat])

/-- R1072 `CVTFB`, codepoint 0x48; operands: F_FLOAT, BYTE. -/
def execCvtfb (s : State) : Host.Outcome State Fault Refusal :=
  .next (s.runInstr 0x48 1 "CVTFB" [.fFloat, .byte])

/-- R1073 `CVTFW`, codepoint 0x49; operands: F_FLOAT, WORD. -/
def execCvtfw (s : State) : Host.Outcome State Fault Refusal :=
  .next (s.runInstr 0x49 1 "CVTFW" [.fFloat, .word])

/-- R1074 `CVTFL`, codepoint 0x4A; operands: F_FLOAT, LONG. -/
def execCvtfl (s : State) : Host.Outcome State Fault Refusal :=
  .next (s.runInstr 0x4A 1 "CVTFL" [.fFloat, .long])

/-- R1075 `CVTRFL`, codepoint 0x4B; operands: F_FLOAT, LONG. -/
def execCvtrfl (s : State) : Host.Outcome State Fault Refusal :=
  .next (s.runInstr 0x4B 1 "CVTRFL" [.fFloat, .long])

/-- R1076 `CVTBF`, codepoint 0x4C; operands: BYTE, F_FLOAT. -/
def execCvtbf (s : State) : Host.Outcome State Fault Refusal :=
  .next (s.runInstr 0x4C 1 "CVTBF" [.byte, .fFloat])

/-- R1077 `CVTWF`, codepoint 0x4D; operands: WORD, F_FLOAT. -/
def execCvtwf (s : State) : Host.Outcome State Fault Refusal :=
  .next (s.runInstr 0x4D 1 "CVTWF" [.word, .fFloat])

/-- R1078 `CVTLF`, codepoint 0x4E; operands: LONG, F_FLOAT. -/
def execCvtlf (s : State) : Host.Outcome State Fault Refusal :=
  .next (s.runInstr 0x4E 1 "CVTLF" [.long, .fFloat])

/-- R1079 `ACBF`, codepoint 0x4F; operands: F_FLOAT, F_FLOAT, F_FLOAT, BDISP16. -/
def execAcbf (s : State) : Host.Outcome State Fault Refusal :=
  .next (s.runInstr 0x4F 1 "ACBF" [.fFloat, .fFloat, .fFloat, .bdisp16])

/-- R1080 `MOVF`, codepoint 0x50; operands: F_FLOAT, F_FLOAT. -/
def execMovf (s : State) : Host.Outcome State Fault Refusal :=
  .next (s.runInstr 0x50 1 "MOVF" [.fFloat, .fFloat])

/-- R1081 `CMPF`, codepoint 0x51; operands: F_FLOAT, F_FLOAT. -/
def execCmpf (s : State) : Host.Outcome State Fault Refusal :=
  .next (s.runInstr 0x51 1 "CMPF" [.fFloat, .fFloat])

/-- R1082 `MNEGF`, codepoint 0x52; operands: F_FLOAT, F_FLOAT. -/
def execMnegf (s : State) : Host.Outcome State Fault Refusal :=
  .next (s.runInstr 0x52 1 "MNEGF" [.fFloat, .fFloat])

/-- R1083 `TSTF`, codepoint 0x53; operands: F_FLOAT. -/
def execTstf (s : State) : Host.Outcome State Fault Refusal :=
  .next (s.runInstr 0x53 1 "TSTF" [.fFloat])

/-- R1084 `EMODF`, codepoint 0x54; operands: F_FLOAT, BYTE, F_FLOAT, LONG, F_FLOAT. -/
def execEmodf (s : State) : Host.Outcome State Fault Refusal :=
  .next (s.runInstr 0x54 1 "EMODF" [.fFloat, .byte, .fFloat, .long, .fFloat])

/-- R1085 `POLYF`, codepoint 0x55; operands: F_FLOAT, WORD, BYTE. -/
def execPolyf (s : State) : Host.Outcome State Fault Refusal :=
  .next (s.runInstr 0x55 1 "POLYF" [.fFloat, .word, .byte])

/-- R1086 `CVTFD`, codepoint 0x56; operands: F_FLOAT, D_FLOAT. -/
def execCvtfd (s : State) : Host.Outcome State Fault Refusal :=
  .next (s.runInstr 0x56 1 "CVTFD" [.fFloat, .dFloat])

end Sys2Proof.Machine
end

