-- ==== Sys2Proof/Machine/GFloating.lean ====
section
/-! DEFINITION. The meanings of codepoints 0xFD40 to 0xFD5F: G_floating instructions (rules R2064 to R2086). Each fetches its opcode,
decodes its operands in order under its row's tags and emits its record (42_decode_loop R248); the block does not
execute (00_scope R3). -/
namespace Sys2Proof.Machine

/-- R2064 `ADDG2`, codepoint 0xFD40; operands: G_FLOAT, G_FLOAT. -/
def execAddg2 (s : State) : Host.Outcome State Fault Refusal :=
  .next (s.runInstr 0xFD40 2 "ADDG2" [.gFloat, .gFloat])

/-- R2065 `ADDG3`, codepoint 0xFD41; operands: G_FLOAT, G_FLOAT, G_FLOAT. -/
def execAddg3 (s : State) : Host.Outcome State Fault Refusal :=
  .next (s.runInstr 0xFD41 2 "ADDG3" [.gFloat, .gFloat, .gFloat])

/-- R2066 `SUBG2`, codepoint 0xFD42; operands: G_FLOAT, G_FLOAT. -/
def execSubg2 (s : State) : Host.Outcome State Fault Refusal :=
  .next (s.runInstr 0xFD42 2 "SUBG2" [.gFloat, .gFloat])

/-- R2067 `SUBG3`, codepoint 0xFD43; operands: G_FLOAT, G_FLOAT, G_FLOAT. -/
def execSubg3 (s : State) : Host.Outcome State Fault Refusal :=
  .next (s.runInstr 0xFD43 2 "SUBG3" [.gFloat, .gFloat, .gFloat])

/-- R2068 `MULG2`, codepoint 0xFD44; operands: G_FLOAT, G_FLOAT. -/
def execMulg2 (s : State) : Host.Outcome State Fault Refusal :=
  .next (s.runInstr 0xFD44 2 "MULG2" [.gFloat, .gFloat])

/-- R2069 `MULG3`, codepoint 0xFD45; operands: G_FLOAT, G_FLOAT, G_FLOAT. -/
def execMulg3 (s : State) : Host.Outcome State Fault Refusal :=
  .next (s.runInstr 0xFD45 2 "MULG3" [.gFloat, .gFloat, .gFloat])

/-- R2070 `DIVG2`, codepoint 0xFD46; operands: G_FLOAT, G_FLOAT. -/
def execDivg2 (s : State) : Host.Outcome State Fault Refusal :=
  .next (s.runInstr 0xFD46 2 "DIVG2" [.gFloat, .gFloat])

/-- R2071 `DIVG3`, codepoint 0xFD47; operands: G_FLOAT, G_FLOAT, G_FLOAT. -/
def execDivg3 (s : State) : Host.Outcome State Fault Refusal :=
  .next (s.runInstr 0xFD47 2 "DIVG3" [.gFloat, .gFloat, .gFloat])

/-- R2072 `CVTGB`, codepoint 0xFD48; operands: G_FLOAT, BYTE. -/
def execCvtgb (s : State) : Host.Outcome State Fault Refusal :=
  .next (s.runInstr 0xFD48 2 "CVTGB" [.gFloat, .byte])

/-- R2073 `CVTGW`, codepoint 0xFD49; operands: G_FLOAT, WORD. -/
def execCvtgw (s : State) : Host.Outcome State Fault Refusal :=
  .next (s.runInstr 0xFD49 2 "CVTGW" [.gFloat, .word])

/-- R2074 `CVTGL`, codepoint 0xFD4A; operands: G_FLOAT, LONG. -/
def execCvtgl (s : State) : Host.Outcome State Fault Refusal :=
  .next (s.runInstr 0xFD4A 2 "CVTGL" [.gFloat, .long])

/-- R2075 `CVTRGL`, codepoint 0xFD4B; operands: G_FLOAT, LONG. -/
def execCvtrgl (s : State) : Host.Outcome State Fault Refusal :=
  .next (s.runInstr 0xFD4B 2 "CVTRGL" [.gFloat, .long])

/-- R2076 `CVTBG`, codepoint 0xFD4C; operands: BYTE, G_FLOAT. -/
def execCvtbg (s : State) : Host.Outcome State Fault Refusal :=
  .next (s.runInstr 0xFD4C 2 "CVTBG" [.byte, .gFloat])

/-- R2077 `CVTWG`, codepoint 0xFD4D; operands: WORD, G_FLOAT. -/
def execCvtwg (s : State) : Host.Outcome State Fault Refusal :=
  .next (s.runInstr 0xFD4D 2 "CVTWG" [.word, .gFloat])

/-- R2078 `CVTLG`, codepoint 0xFD4E; operands: LONG, G_FLOAT. -/
def execCvtlg (s : State) : Host.Outcome State Fault Refusal :=
  .next (s.runInstr 0xFD4E 2 "CVTLG" [.long, .gFloat])

/-- R2079 `ACBG`, codepoint 0xFD4F; operands: G_FLOAT, G_FLOAT, G_FLOAT, BDISP16. -/
def execAcbg (s : State) : Host.Outcome State Fault Refusal :=
  .next (s.runInstr 0xFD4F 2 "ACBG" [.gFloat, .gFloat, .gFloat, .bdisp16])

/-- R2080 `MOVG`, codepoint 0xFD50; operands: G_FLOAT, G_FLOAT. -/
def execMovg (s : State) : Host.Outcome State Fault Refusal :=
  .next (s.runInstr 0xFD50 2 "MOVG" [.gFloat, .gFloat])

/-- R2081 `CMPG`, codepoint 0xFD51; operands: G_FLOAT, G_FLOAT. -/
def execCmpg (s : State) : Host.Outcome State Fault Refusal :=
  .next (s.runInstr 0xFD51 2 "CMPG" [.gFloat, .gFloat])

/-- R2082 `MNEGG`, codepoint 0xFD52; operands: G_FLOAT, G_FLOAT. -/
def execMnegg (s : State) : Host.Outcome State Fault Refusal :=
  .next (s.runInstr 0xFD52 2 "MNEGG" [.gFloat, .gFloat])

/-- R2083 `TSTG`, codepoint 0xFD53; operands: G_FLOAT. -/
def execTstg (s : State) : Host.Outcome State Fault Refusal :=
  .next (s.runInstr 0xFD53 2 "TSTG" [.gFloat])

/-- R2084 `EMODG`, codepoint 0xFD54; operands: G_FLOAT, WORD, G_FLOAT, LONG, G_FLOAT. -/
def execEmodg (s : State) : Host.Outcome State Fault Refusal :=
  .next (s.runInstr 0xFD54 2 "EMODG" [.gFloat, .word, .gFloat, .long, .gFloat])

/-- R2085 `POLYG`, codepoint 0xFD55; operands: G_FLOAT, WORD, BYTE. -/
def execPolyg (s : State) : Host.Outcome State Fault Refusal :=
  .next (s.runInstr 0xFD55 2 "POLYG" [.gFloat, .word, .byte])

/-- R2086 `CVTGH`, codepoint 0xFD56; operands: G_FLOAT, H_FLOAT. -/
def execCvtgh (s : State) : Host.Outcome State Fault Refusal :=
  .next (s.runInstr 0xFD56 2 "CVTGH" [.gFloat, .hFloat])

end Sys2Proof.Machine
end

