-- ==== Sys2Proof/Machine/HFloating.lean ====
section
/-! DEFINITION. The meanings of codepoints 0xFD60 to 0xFD7B: H_floating instructions (rules R2096 to R2118). Each fetches its opcode,
decodes its operands in order under its row's tags and emits its record (42_decode_loop R248); the block does not
execute (00_scope R3). -/
namespace Sys2Proof.Machine

/-- R2096 `ADDH2`, codepoint 0xFD60; operands: H_FLOAT, H_FLOAT. -/
def execAddh2 (s : State) : Host.Outcome State Fault Refusal :=
  .next (s.runInstr 0xFD60 2 "ADDH2" [.hFloat, .hFloat])

/-- R2097 `ADDH3`, codepoint 0xFD61; operands: H_FLOAT, H_FLOAT, H_FLOAT. -/
def execAddh3 (s : State) : Host.Outcome State Fault Refusal :=
  .next (s.runInstr 0xFD61 2 "ADDH3" [.hFloat, .hFloat, .hFloat])

/-- R2098 `SUBH2`, codepoint 0xFD62; operands: H_FLOAT, H_FLOAT. -/
def execSubh2 (s : State) : Host.Outcome State Fault Refusal :=
  .next (s.runInstr 0xFD62 2 "SUBH2" [.hFloat, .hFloat])

/-- R2099 `SUBH3`, codepoint 0xFD63; operands: H_FLOAT, H_FLOAT, H_FLOAT. -/
def execSubh3 (s : State) : Host.Outcome State Fault Refusal :=
  .next (s.runInstr 0xFD63 2 "SUBH3" [.hFloat, .hFloat, .hFloat])

/-- R2100 `MULH2`, codepoint 0xFD64; operands: H_FLOAT, H_FLOAT. -/
def execMulh2 (s : State) : Host.Outcome State Fault Refusal :=
  .next (s.runInstr 0xFD64 2 "MULH2" [.hFloat, .hFloat])

/-- R2101 `MULH3`, codepoint 0xFD65; operands: H_FLOAT, H_FLOAT, H_FLOAT. -/
def execMulh3 (s : State) : Host.Outcome State Fault Refusal :=
  .next (s.runInstr 0xFD65 2 "MULH3" [.hFloat, .hFloat, .hFloat])

/-- R2102 `DIVH2`, codepoint 0xFD66; operands: H_FLOAT, H_FLOAT. -/
def execDivh2 (s : State) : Host.Outcome State Fault Refusal :=
  .next (s.runInstr 0xFD66 2 "DIVH2" [.hFloat, .hFloat])

/-- R2103 `DIVH3`, codepoint 0xFD67; operands: H_FLOAT, H_FLOAT, H_FLOAT. -/
def execDivh3 (s : State) : Host.Outcome State Fault Refusal :=
  .next (s.runInstr 0xFD67 2 "DIVH3" [.hFloat, .hFloat, .hFloat])

/-- R2104 `CVTHB`, codepoint 0xFD68; operands: H_FLOAT, BYTE. -/
def execCvthb (s : State) : Host.Outcome State Fault Refusal :=
  .next (s.runInstr 0xFD68 2 "CVTHB" [.hFloat, .byte])

/-- R2105 `CVTHW`, codepoint 0xFD69; operands: H_FLOAT, WORD. -/
def execCvthw (s : State) : Host.Outcome State Fault Refusal :=
  .next (s.runInstr 0xFD69 2 "CVTHW" [.hFloat, .word])

/-- R2106 `CVTHL`, codepoint 0xFD6A; operands: H_FLOAT, LONG. -/
def execCvthl (s : State) : Host.Outcome State Fault Refusal :=
  .next (s.runInstr 0xFD6A 2 "CVTHL" [.hFloat, .long])

/-- R2107 `CVTRHL`, codepoint 0xFD6B; operands: H_FLOAT, LONG. -/
def execCvtrhl (s : State) : Host.Outcome State Fault Refusal :=
  .next (s.runInstr 0xFD6B 2 "CVTRHL" [.hFloat, .long])

/-- R2108 `CVTBH`, codepoint 0xFD6C; operands: BYTE, H_FLOAT. -/
def execCvtbh (s : State) : Host.Outcome State Fault Refusal :=
  .next (s.runInstr 0xFD6C 2 "CVTBH" [.byte, .hFloat])

/-- R2109 `CVTWH`, codepoint 0xFD6D; operands: WORD, H_FLOAT. -/
def execCvtwh (s : State) : Host.Outcome State Fault Refusal :=
  .next (s.runInstr 0xFD6D 2 "CVTWH" [.word, .hFloat])

/-- R2110 `CVTLH`, codepoint 0xFD6E; operands: LONG, H_FLOAT. -/
def execCvtlh (s : State) : Host.Outcome State Fault Refusal :=
  .next (s.runInstr 0xFD6E 2 "CVTLH" [.long, .hFloat])

/-- R2111 `ACBH`, codepoint 0xFD6F; operands: H_FLOAT, H_FLOAT, H_FLOAT, BDISP16. -/
def execAcbh (s : State) : Host.Outcome State Fault Refusal :=
  .next (s.runInstr 0xFD6F 2 "ACBH" [.hFloat, .hFloat, .hFloat, .bdisp16])

/-- R2112 `MOVH`, codepoint 0xFD70; operands: H_FLOAT, H_FLOAT. -/
def execMovh (s : State) : Host.Outcome State Fault Refusal :=
  .next (s.runInstr 0xFD70 2 "MOVH" [.hFloat, .hFloat])

/-- R2113 `CMPH`, codepoint 0xFD71; operands: H_FLOAT, H_FLOAT. -/
def execCmph (s : State) : Host.Outcome State Fault Refusal :=
  .next (s.runInstr 0xFD71 2 "CMPH" [.hFloat, .hFloat])

/-- R2114 `MNEGH`, codepoint 0xFD72; operands: H_FLOAT, H_FLOAT. -/
def execMnegh (s : State) : Host.Outcome State Fault Refusal :=
  .next (s.runInstr 0xFD72 2 "MNEGH" [.hFloat, .hFloat])

/-- R2115 `TSTH`, codepoint 0xFD73; operands: H_FLOAT. -/
def execTsth (s : State) : Host.Outcome State Fault Refusal :=
  .next (s.runInstr 0xFD73 2 "TSTH" [.hFloat])

/-- R2116 `EMODH`, codepoint 0xFD74; operands: H_FLOAT, WORD, H_FLOAT, LONG, H_FLOAT. -/
def execEmodh (s : State) : Host.Outcome State Fault Refusal :=
  .next (s.runInstr 0xFD74 2 "EMODH" [.hFloat, .word, .hFloat, .long, .hFloat])

/-- R2117 `POLYH`, codepoint 0xFD75; operands: H_FLOAT, WORD, BYTE. -/
def execPolyh (s : State) : Host.Outcome State Fault Refusal :=
  .next (s.runInstr 0xFD75 2 "POLYH" [.hFloat, .word, .byte])

/-- R2118 `CVTHG`, codepoint 0xFD76; operands: H_FLOAT, G_FLOAT. -/
def execCvthg (s : State) : Host.Outcome State Fault Refusal :=
  .next (s.runInstr 0xFD76 2 "CVTHG" [.hFloat, .gFloat])

end Sys2Proof.Machine
end

