-- ==== Sys2Proof/Machine/InterlockedQueue.lean ====
section
/-! DEFINITION. The meanings of codepoints 0x57 to 0x5F: ADAWI and interlocked queue instructions (rules R1088 to R1095). Each fetches its opcode,
decodes its operands in order under its row's tags and emits its record (42_decode_loop R248); the block does not
execute (00_scope R3). -/
namespace Sys2Proof.Machine

/-- R1088 `ADAWI`, codepoint 0x58; operands: WORD, WORD. -/
def execAdawi (s : State) : Host.Outcome State Fault Refusal :=
  .next (s.runInstr 0x58 1 "ADAWI" [.word, .word])

/-- R1092 `INSQHI`, codepoint 0x5C; operands: BYTE, QUAD. -/
def execInsqhi (s : State) : Host.Outcome State Fault Refusal :=
  .next (s.runInstr 0x5C 1 "INSQHI" [.byte, .quad])

/-- R1093 `INSQTI`, codepoint 0x5D; operands: BYTE, QUAD. -/
def execInsqti (s : State) : Host.Outcome State Fault Refusal :=
  .next (s.runInstr 0x5D 1 "INSQTI" [.byte, .quad])

/-- R1094 `REMQHI`, codepoint 0x5E; operands: QUAD, LONG. -/
def execRemqhi (s : State) : Host.Outcome State Fault Refusal :=
  .next (s.runInstr 0x5E 1 "REMQHI" [.quad, .long])

/-- R1095 `REMQTI`, codepoint 0x5F; operands: QUAD, LONG. -/
def execRemqti (s : State) : Host.Outcome State Fault Refusal :=
  .next (s.runInstr 0x5F 1 "REMQTI" [.quad, .long])

end Sys2Proof.Machine
end

