-- ==== Sys2Proof/Machine/LongInteger.lean ====
section
/-! DEFINITION. The meanings of codepoints 0xC0 to 0xDF: longword integer and processor-register instructions (rules R1192 to R1223). Each fetches its opcode,
decodes its operands in order under its row's tags and emits its record (42_decode_loop R248); the block does not
execute (00_scope R3). -/
namespace Sys2Proof.Machine

/-- R1192 `ADDL2`, codepoint 0xC0; operands: LONG, LONG. -/
def execAddl2 (s : State) : Host.Outcome State Fault Refusal :=
  .next (s.runInstr 0xC0 1 "ADDL2" [.long, .long])

/-- R1193 `ADDL3`, codepoint 0xC1; operands: LONG, LONG, LONG. -/
def execAddl3 (s : State) : Host.Outcome State Fault Refusal :=
  .next (s.runInstr 0xC1 1 "ADDL3" [.long, .long, .long])

/-- R1194 `SUBL2`, codepoint 0xC2; operands: LONG, LONG. -/
def execSubl2 (s : State) : Host.Outcome State Fault Refusal :=
  .next (s.runInstr 0xC2 1 "SUBL2" [.long, .long])

/-- R1195 `SUBL3`, codepoint 0xC3; operands: LONG, LONG, LONG. -/
def execSubl3 (s : State) : Host.Outcome State Fault Refusal :=
  .next (s.runInstr 0xC3 1 "SUBL3" [.long, .long, .long])

/-- R1196 `MULL2`, codepoint 0xC4; operands: LONG, LONG. -/
def execMull2 (s : State) : Host.Outcome State Fault Refusal :=
  .next (s.runInstr 0xC4 1 "MULL2" [.long, .long])

/-- R1197 `MULL3`, codepoint 0xC5; operands: LONG, LONG, LONG. -/
def execMull3 (s : State) : Host.Outcome State Fault Refusal :=
  .next (s.runInstr 0xC5 1 "MULL3" [.long, .long, .long])

/-- R1198 `DIVL2`, codepoint 0xC6; operands: LONG, LONG. -/
def execDivl2 (s : State) : Host.Outcome State Fault Refusal :=
  .next (s.runInstr 0xC6 1 "DIVL2" [.long, .long])

/-- R1199 `DIVL3`, codepoint 0xC7; operands: LONG, LONG, LONG. -/
def execDivl3 (s : State) : Host.Outcome State Fault Refusal :=
  .next (s.runInstr 0xC7 1 "DIVL3" [.long, .long, .long])

/-- R1200 `BISL2`, codepoint 0xC8; operands: LONG, LONG. -/
def execBisl2 (s : State) : Host.Outcome State Fault Refusal :=
  .next (s.runInstr 0xC8 1 "BISL2" [.long, .long])

/-- R1201 `BISL3`, codepoint 0xC9; operands: LONG, LONG, LONG. -/
def execBisl3 (s : State) : Host.Outcome State Fault Refusal :=
  .next (s.runInstr 0xC9 1 "BISL3" [.long, .long, .long])

/-- R1202 `BICL2`, codepoint 0xCA; operands: LONG, LONG. -/
def execBicl2 (s : State) : Host.Outcome State Fault Refusal :=
  .next (s.runInstr 0xCA 1 "BICL2" [.long, .long])

/-- R1203 `BICL3`, codepoint 0xCB; operands: LONG, LONG, LONG. -/
def execBicl3 (s : State) : Host.Outcome State Fault Refusal :=
  .next (s.runInstr 0xCB 1 "BICL3" [.long, .long, .long])

/-- R1204 `XORL2`, codepoint 0xCC; operands: LONG, LONG. -/
def execXorl2 (s : State) : Host.Outcome State Fault Refusal :=
  .next (s.runInstr 0xCC 1 "XORL2" [.long, .long])

/-- R1205 `XORL3`, codepoint 0xCD; operands: LONG, LONG, LONG. -/
def execXorl3 (s : State) : Host.Outcome State Fault Refusal :=
  .next (s.runInstr 0xCD 1 "XORL3" [.long, .long, .long])

/-- R1206 `MNEGL`, codepoint 0xCE; operands: LONG, LONG. -/
def execMnegl (s : State) : Host.Outcome State Fault Refusal :=
  .next (s.runInstr 0xCE 1 "MNEGL" [.long, .long])

/-- R1207 `CASEL`, codepoint 0xCF; operands: LONG, LONG, LONG. -/
def execCasel (s : State) : Host.Outcome State Fault Refusal :=
  .next (s.runInstr 0xCF 1 "CASEL" [.long, .long, .long])

/-- R1208 `MOVL`, codepoint 0xD0; operands: LONG, LONG. -/
def execMovl (s : State) : Host.Outcome State Fault Refusal :=
  .next (s.runInstr 0xD0 1 "MOVL" [.long, .long])

/-- R1209 `CMPL`, codepoint 0xD1; operands: LONG, LONG. -/
def execCmpl (s : State) : Host.Outcome State Fault Refusal :=
  .next (s.runInstr 0xD1 1 "CMPL" [.long, .long])

/-- R1210 `MCOML`, codepoint 0xD2; operands: LONG, LONG. -/
def execMcoml (s : State) : Host.Outcome State Fault Refusal :=
  .next (s.runInstr 0xD2 1 "MCOML" [.long, .long])

/-- R1211 `BITL`, codepoint 0xD3; operands: LONG, LONG. -/
def execBitl (s : State) : Host.Outcome State Fault Refusal :=
  .next (s.runInstr 0xD3 1 "BITL" [.long, .long])

/-- R1212 `CLRL`, codepoint 0xD4; operands: LONG. -/
def execClrl (s : State) : Host.Outcome State Fault Refusal :=
  .next (s.runInstr 0xD4 1 "CLRL" [.long])

/-- R1213 `TSTL`, codepoint 0xD5; operands: LONG. -/
def execTstl (s : State) : Host.Outcome State Fault Refusal :=
  .next (s.runInstr 0xD5 1 "TSTL" [.long])

/-- R1214 `INCL`, codepoint 0xD6; operands: LONG. -/
def execIncl (s : State) : Host.Outcome State Fault Refusal :=
  .next (s.runInstr 0xD6 1 "INCL" [.long])

/-- R1215 `DECL`, codepoint 0xD7; operands: LONG. -/
def execDecl (s : State) : Host.Outcome State Fault Refusal :=
  .next (s.runInstr 0xD7 1 "DECL" [.long])

/-- R1216 `ADWC`, codepoint 0xD8; operands: LONG, LONG. -/
def execAdwc (s : State) : Host.Outcome State Fault Refusal :=
  .next (s.runInstr 0xD8 1 "ADWC" [.long, .long])

/-- R1217 `SBWC`, codepoint 0xD9; operands: LONG, LONG. -/
def execSbwc (s : State) : Host.Outcome State Fault Refusal :=
  .next (s.runInstr 0xD9 1 "SBWC" [.long, .long])

/-- R1218 `MTPR`, codepoint 0xDA; operands: LONG, LONG. -/
def execMtpr (s : State) : Host.Outcome State Fault Refusal :=
  .next (s.runInstr 0xDA 1 "MTPR" [.long, .long])

/-- R1219 `MFPR`, codepoint 0xDB; operands: LONG, LONG. -/
def execMfpr (s : State) : Host.Outcome State Fault Refusal :=
  .next (s.runInstr 0xDB 1 "MFPR" [.long, .long])

/-- R1220 `MOVPSL`, codepoint 0xDC; operands: LONG. -/
def execMovpsl (s : State) : Host.Outcome State Fault Refusal :=
  .next (s.runInstr 0xDC 1 "MOVPSL" [.long])

/-- R1221 `PUSHL`, codepoint 0xDD; operands: LONG. -/
def execPushl (s : State) : Host.Outcome State Fault Refusal :=
  .next (s.runInstr 0xDD 1 "PUSHL" [.long])

/-- R1222 `MOVAL`, codepoint 0xDE; operands: LONG, LONG. -/
def execMoval (s : State) : Host.Outcome State Fault Refusal :=
  .next (s.runInstr 0xDE 1 "MOVAL" [.long, .long])

/-- R1223 `PUSHAL`, codepoint 0xDF; operands: LONG. -/
def execPushal (s : State) : Host.Outcome State Fault Refusal :=
  .next (s.runInstr 0xDF 1 "PUSHAL" [.long])

end Sys2Proof.Machine
end

