-- ==== Sys2Proof/Machine/Octaword.lean ====
section
/-! DEFINITION. The meanings of codepoints 0xFD7C to 0xFD7F: octaword instructions (rules R2124 to R2127). Each fetches its opcode,
decodes its operands in order under its row's tags and emits its record (42_decode_loop R248); the block does not
execute (00_scope R3). -/
namespace Sys2Proof.Machine

/-- R2124 `CLRO`, codepoint 0xFD7C; operands: OCTA. -/
def execClro (s : State) : Host.Outcome State Fault Refusal :=
  .next (s.runInstr 0xFD7C 2 "CLRO" [.octa])

/-- R2125 `MOVO`, codepoint 0xFD7D; operands: OCTA, OCTA. -/
def execMovo (s : State) : Host.Outcome State Fault Refusal :=
  .next (s.runInstr 0xFD7D 2 "MOVO" [.octa, .octa])

/-- R2126 `MOVAO`, codepoint 0xFD7E; operands: OCTA, LONG. -/
def execMovao (s : State) : Host.Outcome State Fault Refusal :=
  .next (s.runInstr 0xFD7E 2 "MOVAO" [.octa, .long])

/-- R2127 `PUSHAO`, codepoint 0xFD7F; operands: OCTA. -/
def execPushao (s : State) : Host.Outcome State Fault Refusal :=
  .next (s.runInstr 0xFD7F 2 "PUSHAO" [.octa])

end Sys2Proof.Machine
end

