-- ==== Sys2Proof/Machine/PackedString.lean ====
section
/-! DEFINITION. The meanings of codepoints 0x20 to 0x3F: packed decimal, character string, word branches, word conversions, ACBW (rules R1032 to R1063). Each fetches its opcode,
decodes its operands in order under its row's tags and emits its record (42_decode_loop R248); the block does not
execute (00_scope R3). -/
namespace Sys2Proof.Machine

/-- R1032 `ADDP4`, codepoint 0x20; operands: WORD, BYTE, WORD, BYTE. -/
def execAddp4 (s : State) : Host.Outcome State Fault Refusal :=
  .next (s.runInstr 0x20 1 "ADDP4" [.word, .byte, .word, .byte])

/-- R1033 `ADDP6`, codepoint 0x21; operands: WORD, BYTE, WORD, BYTE, WORD, BYTE. -/
def execAddp6 (s : State) : Host.Outcome State Fault Refusal :=
  .next (s.runInstr 0x21 1 "ADDP6" [.word, .byte, .word, .byte, .word, .byte])

/-- R1034 `SUBP4`, codepoint 0x22; operands: WORD, BYTE, WORD, BYTE. -/
def execSubp4 (s : State) : Host.Outcome State Fault Refusal :=
  .next (s.runInstr 0x22 1 "SUBP4" [.word, .byte, .word, .byte])

/-- R1035 `SUBP6`, codepoint 0x23; operands: WORD, BYTE, WORD, BYTE, WORD, BYTE. -/
def execSubp6 (s : State) : Host.Outcome State Fault Refusal :=
  .next (s.runInstr 0x23 1 "SUBP6" [.word, .byte, .word, .byte, .word, .byte])

/-- R1036 `CVTPT`, codepoint 0x24; operands: WORD, BYTE, BYTE, WORD, BYTE. -/
def execCvtpt (s : State) : Host.Outcome State Fault Refusal :=
  .next (s.runInstr 0x24 1 "CVTPT" [.word, .byte, .byte, .word, .byte])

/-- R1037 `MULP`, codepoint 0x25; operands: WORD, BYTE, WORD, BYTE, WORD, BYTE. -/
def execMulp (s : State) : Host.Outcome State Fault Refusal :=
  .next (s.runInstr 0x25 1 "MULP" [.word, .byte, .word, .byte, .word, .byte])

/-- R1038 `CVTTP`, codepoint 0x26; operands: WORD, BYTE, BYTE, WORD, BYTE. -/
def execCvttp (s : State) : Host.Outcome State Fault Refusal :=
  .next (s.runInstr 0x26 1 "CVTTP" [.word, .byte, .byte, .word, .byte])

/-- R1039 `DIVP`, codepoint 0x27; operands: WORD, BYTE, WORD, BYTE, WORD, BYTE. -/
def execDivp (s : State) : Host.Outcome State Fault Refusal :=
  .next (s.runInstr 0x27 1 "DIVP" [.word, .byte, .word, .byte, .word, .byte])

/-- R1040 `MOVC3`, codepoint 0x28; operands: WORD, BYTE, BYTE. -/
def execMovc3 (s : State) : Host.Outcome State Fault Refusal :=
  .next (s.runInstr 0x28 1 "MOVC3" [.word, .byte, .byte])

/-- R1041 `CMPC3`, codepoint 0x29; operands: WORD, BYTE, BYTE. -/
def execCmpc3 (s : State) : Host.Outcome State Fault Refusal :=
  .next (s.runInstr 0x29 1 "CMPC3" [.word, .byte, .byte])

/-- R1042 `SCANC`, codepoint 0x2A; operands: WORD, BYTE, BYTE, BYTE. -/
def execScanc (s : State) : Host.Outcome State Fault Refusal :=
  .next (s.runInstr 0x2A 1 "SCANC" [.word, .byte, .byte, .byte])

/-- R1043 `SPANC`, codepoint 0x2B; operands: WORD, BYTE, BYTE, BYTE. -/
def execSpanc (s : State) : Host.Outcome State Fault Refusal :=
  .next (s.runInstr 0x2B 1 "SPANC" [.word, .byte, .byte, .byte])

/-- R1044 `MOVC5`, codepoint 0x2C; operands: WORD, BYTE, BYTE, WORD, BYTE. -/
def execMovc5 (s : State) : Host.Outcome State Fault Refusal :=
  .next (s.runInstr 0x2C 1 "MOVC5" [.word, .byte, .byte, .word, .byte])

/-- R1045 `CMPC5`, codepoint 0x2D; operands: WORD, BYTE, BYTE, WORD, BYTE. -/
def execCmpc5 (s : State) : Host.Outcome State Fault Refusal :=
  .next (s.runInstr 0x2D 1 "CMPC5" [.word, .byte, .byte, .word, .byte])

/-- R1046 `MOVTC`, codepoint 0x2E; operands: WORD, BYTE, BYTE, BYTE, WORD, BYTE. -/
def execMovtc (s : State) : Host.Outcome State Fault Refusal :=
  .next (s.runInstr 0x2E 1 "MOVTC" [.word, .byte, .byte, .byte, .word, .byte])

/-- R1047 `MOVTUC`, codepoint 0x2F; operands: WORD, BYTE, BYTE, BYTE, WORD, BYTE. -/
def execMovtuc (s : State) : Host.Outcome State Fault Refusal :=
  .next (s.runInstr 0x2F 1 "MOVTUC" [.word, .byte, .byte, .byte, .word, .byte])

/-- R1048 `BSBW`, codepoint 0x30; operands: BDISP16. -/
def execBsbw (s : State) : Host.Outcome State Fault Refusal :=
  .next (s.runInstr 0x30 1 "BSBW" [.bdisp16])

/-- R1049 `BRW`, codepoint 0x31; operands: BDISP16. -/
def execBrw (s : State) : Host.Outcome State Fault Refusal :=
  .next (s.runInstr 0x31 1 "BRW" [.bdisp16])

/-- R1050 `CVTWL`, codepoint 0x32; operands: WORD, LONG. -/
def execCvtwl (s : State) : Host.Outcome State Fault Refusal :=
  .next (s.runInstr 0x32 1 "CVTWL" [.word, .long])

/-- R1051 `CVTWB`, codepoint 0x33; operands: WORD, BYTE. -/
def execCvtwb (s : State) : Host.Outcome State Fault Refusal :=
  .next (s.runInstr 0x33 1 "CVTWB" [.word, .byte])

/-- R1052 `MOVP`, codepoint 0x34; operands: WORD, BYTE, BYTE. -/
def execMovp (s : State) : Host.Outcome State Fault Refusal :=
  .next (s.runInstr 0x34 1 "MOVP" [.word, .byte, .byte])

/-- R1053 `CMPP3`, codepoint 0x35; operands: WORD, BYTE, BYTE. -/
def execCmpp3 (s : State) : Host.Outcome State Fault Refusal :=
  .next (s.runInstr 0x35 1 "CMPP3" [.word, .byte, .byte])

/-- R1054 `CVTPL`, codepoint 0x36; operands: WORD, BYTE, LONG. -/
def execCvtpl (s : State) : Host.Outcome State Fault Refusal :=
  .next (s.runInstr 0x36 1 "CVTPL" [.word, .byte, .long])

/-- R1055 `CMPP4`, codepoint 0x37; operands: WORD, BYTE, WORD, BYTE. -/
def execCmpp4 (s : State) : Host.Outcome State Fault Refusal :=
  .next (s.runInstr 0x37 1 "CMPP4" [.word, .byte, .word, .byte])

/-- R1056 `EDITPC`, codepoint 0x38; operands: WORD, BYTE, BYTE, BYTE. -/
def execEditpc (s : State) : Host.Outcome State Fault Refusal :=
  .next (s.runInstr 0x38 1 "EDITPC" [.word, .byte, .byte, .byte])

/-- R1057 `MATCHC`, codepoint 0x39; operands: WORD, BYTE, WORD, BYTE. -/
def execMatchc (s : State) : Host.Outcome State Fault Refusal :=
  .next (s.runInstr 0x39 1 "MATCHC" [.word, .byte, .word, .byte])

/-- R1058 `LOCC`, codepoint 0x3A; operands: BYTE, WORD, BYTE. -/
def execLocc (s : State) : Host.Outcome State Fault Refusal :=
  .next (s.runInstr 0x3A 1 "LOCC" [.byte, .word, .byte])

/-- R1059 `SKPC`, codepoint 0x3B; operands: BYTE, WORD, BYTE. -/
def execSkpc (s : State) : Host.Outcome State Fault Refusal :=
  .next (s.runInstr 0x3B 1 "SKPC" [.byte, .word, .byte])

/-- R1060 `MOVZWL`, codepoint 0x3C; operands: WORD, LONG. -/
def execMovzwl (s : State) : Host.Outcome State Fault Refusal :=
  .next (s.runInstr 0x3C 1 "MOVZWL" [.word, .long])

/-- R1061 `ACBW`, codepoint 0x3D; operands: WORD, WORD, WORD, BDISP16. -/
def execAcbw (s : State) : Host.Outcome State Fault Refusal :=
  .next (s.runInstr 0x3D 1 "ACBW" [.word, .word, .word, .bdisp16])

/-- R1062 `MOVAW`, codepoint 0x3E; operands: WORD, LONG. -/
def execMovaw (s : State) : Host.Outcome State Fault Refusal :=
  .next (s.runInstr 0x3E 1 "MOVAW" [.word, .long])

/-- R1063 `PUSHAW`, codepoint 0x3F; operands: WORD. -/
def execPushaw (s : State) : Host.Outcome State Fault Refusal :=
  .next (s.runInstr 0x3F 1 "PUSHAW" [.word])

end Sys2Proof.Machine
end

