-- ==== Sys2Proof/Machine/ShiftQuad.lean ====
section
/-! DEFINITION. The meanings of codepoints 0x77 to 0x7F: shifts, extended multiply and divide, quadword instructions (rules R1120 to R1127). Each fetches its opcode,
decodes its operands in order under its row's tags and emits its record (42_decode_loop R248); the block does not
execute (00_scope R3). -/
namespace Sys2Proof.Machine

/-- R1120 `ASHL`, codepoint 0x78; operands: BYTE, LONG, LONG. -/
def execAshl (s : State) : Host.Outcome State Fault Refusal :=
  .next (s.runInstr 0x78 1 "ASHL" [.byte, .long, .long])

/-- R1121 `ASHQ`, codepoint 0x79; operands: BYTE, QUAD, QUAD. -/
def execAshq (s : State) : Host.Outcome State Fault Refusal :=
  .next (s.runInstr 0x79 1 "ASHQ" [.byte, .quad, .quad])

/-- R1122 `EMUL`, codepoint 0x7A; operands: LONG, LONG, LONG, QUAD. -/
def execEmul (s : State) : Host.Outcome State Fault Refusal :=
  .next (s.runInstr 0x7A 1 "EMUL" [.long, .long, .long, .quad])

/-- R1123 `EDIV`, codepoint 0x7B; operands: LONG, QUAD, LONG, LONG. -/
def execEdiv (s : State) : Host.Outcome State Fault Refusal :=
  .next (s.runInstr 0x7B 1 "EDIV" [.long, .quad, .long, .long])

/-- R1124 `CLRQ`, codepoint 0x7C; operands: QUAD. -/
def execClrq (s : State) : Host.Outcome State Fault Refusal :=
  .next (s.runInstr 0x7C 1 "CLRQ" [.quad])

/-- R1125 `MOVQ`, codepoint 0x7D; operands: QUAD, QUAD. -/
def execMovq (s : State) : Host.Outcome State Fault Refusal :=
  .next (s.runInstr 0x7D 1 "MOVQ" [.quad, .quad])

/-- R1126 `MOVAQ`, codepoint 0x7E; operands: QUAD, LONG. -/
def execMovaq (s : State) : Host.Outcome State Fault Refusal :=
  .next (s.runInstr 0x7E 1 "MOVAQ" [.quad, .long])

/-- R1127 `PUSHAQ`, codepoint 0x7F; operands: QUAD. -/
def execPushaq (s : State) : Host.Outcome State Fault Refusal :=
  .next (s.runInstr 0x7F 1 "PUSHAQ" [.quad])

end Sys2Proof.Machine
end

