-- ==== Sys2Proof/Machine/SystemReturn.lean ====
section
/-! DEFINITION. The meanings of codepoints 0x00 to 0x07: system, trap and return instructions (rules R1000 to R1007). Each fetches its opcode,
decodes its operands in order under its row's tags and emits its record (42_decode_loop R248); the block does not
execute (00_scope R3). -/
namespace Sys2Proof.Machine

/-- R1000 `HALT`, codepoint 0x00; operands: none. -/
def execHalt (s : State) : Host.Outcome State Fault Refusal :=
  .next (s.runInstr 0x00 1 "HALT" [])

/-- R1001 `NOP`, codepoint 0x01; operands: none. -/
def execNop (s : State) : Host.Outcome State Fault Refusal :=
  .next (s.runInstr 0x01 1 "NOP" [])

/-- R1002 `REI`, codepoint 0x02; operands: none. -/
def execRei (s : State) : Host.Outcome State Fault Refusal :=
  .next (s.runInstr 0x02 1 "REI" [])

/-- R1003 `BPT`, codepoint 0x03; operands: none. -/
def execBpt (s : State) : Host.Outcome State Fault Refusal :=
  .next (s.runInstr 0x03 1 "BPT" [])

/-- R1004 `RET`, codepoint 0x04; operands: none. -/
def execRet (s : State) : Host.Outcome State Fault Refusal :=
  .next (s.runInstr 0x04 1 "RET" [])

/-- R1005 `RSB`, codepoint 0x05; operands: none. -/
def execRsb (s : State) : Host.Outcome State Fault Refusal :=
  .next (s.runInstr 0x05 1 "RSB" [])

/-- R1006 `LDPCTX`, codepoint 0x06; operands: none. -/
def execLdpctx (s : State) : Host.Outcome State Fault Refusal :=
  .next (s.runInstr 0x06 1 "LDPCTX" [])

/-- R1007 `SVPCTX`, codepoint 0x07; operands: none. -/
def execSvpctx (s : State) : Host.Outcome State Fault Refusal :=
  .next (s.runInstr 0x07 1 "SVPCTX" [])

end Sys2Proof.Machine
end

