-- ==== Sys2Proof/Machine/WordInteger.lean ====
section
/-! DEFINITION. The meanings of codepoints 0xA0 to 0xBF: word integer, PSW, register-mask and change-mode instructions (rules R1160 to R1191). Each fetches its opcode,
decodes its operands in order under its row's tags and emits its record (42_decode_loop R248); the block does not
execute (00_scope R3). -/
namespace Sys2Proof.Machine

/-- R1160 `ADDW2`, codepoint 0xA0; operands: WORD, WORD. -/
def execAddw2 (s : State) : Host.Outcome State Fault Refusal :=
  .next (s.runInstr 0xA0 1 "ADDW2" [.word, .word])

/-- R1161 `ADDW3`, codepoint 0xA1; operands: WORD, WORD, WORD. -/
def execAddw3 (s : State) : Host.Outcome State Fault Refusal :=
  .next (s.runInstr 0xA1 1 "ADDW3" [.word, .word, .word])

/-- R1162 `SUBW2`, codepoint 0xA2; operands: WORD, WORD. -/
def execSubw2 (s : State) : Host.Outcome State Fault Refusal :=
  .next (s.runInstr 0xA2 1 "SUBW2" [.word, .word])

/-- R1163 `SUBW3`, codepoint 0xA3; operands: WORD, WORD, WORD. -/
def execSubw3 (s : State) : Host.Outcome State Fault Refusal :=
  .next (s.runInstr 0xA3 1 "SUBW3" [.word, .word, .word])

/-- R1164 `MULW2`, codepoint 0xA4; operands: WORD, WORD. -/
def execMulw2 (s : State) : Host.Outcome State Fault Refusal :=
  .next (s.runInstr 0xA4 1 "MULW2" [.word, .word])

/-- R1165 `MULW3`, codepoint 0xA5; operands: WORD, WORD, WORD. -/
def execMulw3 (s : State) : Host.Outcome State Fault Refusal :=
  .next (s.runInstr 0xA5 1 "MULW3" [.word, .word, .word])

/-- R1166 `DIVW2`, codepoint 0xA6; operands: WORD, WORD. -/
def execDivw2 (s : State) : Host.Outcome State Fault Refusal :=
  .next (s.runInstr 0xA6 1 "DIVW2" [.word, .word])

/-- R1167 `DIVW3`, codepoint 0xA7; operands: WORD, WORD, WORD. -/
def execDivw3 (s : State) : Host.Outcome State Fault Refusal :=
  .next (s.runInstr 0xA7 1 "DIVW3" [.word, .word, .word])

/-- R1168 `BISW2`, codepoint 0xA8; operands: WORD, WORD. -/
def execBisw2 (s : State) : Host.Outcome State Fault Refusal :=
  .next (s.runInstr 0xA8 1 "BISW2" [.word, .word])

/-- R1169 `BISW3`, codepoint 0xA9; operands: WORD, WORD, WORD. -/
def execBisw3 (s : State) : Host.Outcome State Fault Refusal :=
  .next (s.runInstr 0xA9 1 "BISW3" [.word, .word, .word])

/-- R1170 `BICW2`, codepoint 0xAA; operands: WORD, WORD. -/
def execBicw2 (s : State) : Host.Outcome State Fault Refusal :=
  .next (s.runInstr 0xAA 1 "BICW2" [.word, .word])

/-- R1171 `BICW3`, codepoint 0xAB; operands: WORD, WORD, WORD. -/
def execBicw3 (s : State) : Host.Outcome State Fault Refusal :=
  .next (s.runInstr 0xAB 1 "BICW3" [.word, .word, .word])

/-- R1172 `XORW2`, codepoint 0xAC; operands: WORD, WORD. -/
def execXorw2 (s : State) : Host.Outcome State Fault Refusal :=
  .next (s.runInstr 0xAC 1 "XORW2" [.word, .word])

/-- R1173 `XORW3`, codepoint 0xAD; operands: WORD, WORD, WORD. -/
def execXorw3 (s : State) : Host.Outcome State Fault Refusal :=
  .next (s.runInstr 0xAD 1 "XORW3" [.word, .word, .word])

/-- R1174 `MNEGW`, codepoint 0xAE; operands: WORD, WORD. -/
def execMnegw (s : State) : Host.Outcome State Fault Refusal :=
  .next (s.runInstr 0xAE 1 "MNEGW" [.word, .word])

/-- R1175 `CASEW`, codepoint 0xAF; operands: WORD, WORD, WORD. -/
def execCasew (s : State) : Host.Outcome State Fault Refusal :=
  .next (s.runInstr 0xAF 1 "CASEW" [.word, .word, .word])

/-- R1176 `MOVW`, codepoint 0xB0; operands: WORD, WORD. -/
def execMovw (s : State) : Host.Outcome State Fault Refusal :=
  .next (s.runInstr 0xB0 1 "MOVW" [.word, .word])

/-- R1177 `CMPW`, codepoint 0xB1; operands: WORD, WORD. -/
def execCmpw (s : State) : Host.Outcome State Fault Refusal :=
  .next (s.runInstr 0xB1 1 "CMPW" [.word, .word])

/-- R1178 `MCOMW`, codepoint 0xB2; operands: WORD, WORD. -/
def execMcomw (s : State) : Host.Outcome State Fault Refusal :=
  .next (s.runInstr 0xB2 1 "MCOMW" [.word, .word])

/-- R1179 `BITW`, codepoint 0xB3; operands: WORD, WORD. -/
def execBitw (s : State) : Host.Outcome State Fault Refusal :=
  .next (s.runInstr 0xB3 1 "BITW" [.word, .word])

/-- R1180 `CLRW`, codepoint 0xB4; operands: WORD. -/
def execClrw (s : State) : Host.Outcome State Fault Refusal :=
  .next (s.runInstr 0xB4 1 "CLRW" [.word])

/-- R1181 `TSTW`, codepoint 0xB5; operands: WORD. -/
def execTstw (s : State) : Host.Outcome State Fault Refusal :=
  .next (s.runInstr 0xB5 1 "TSTW" [.word])

/-- R1182 `INCW`, codepoint 0xB6; operands: WORD. -/
def execIncw (s : State) : Host.Outcome State Fault Refusal :=
  .next (s.runInstr 0xB6 1 "INCW" [.word])

/-- R1183 `DECW`, codepoint 0xB7; operands: WORD. -/
def execDecw (s : State) : Host.Outcome State Fault Refusal :=
  .next (s.runInstr 0xB7 1 "DECW" [.word])

/-- R1184 `BISPSW`, codepoint 0xB8; operands: WORD. -/
def execBispsw (s : State) : Host.Outcome State Fault Refusal :=
  .next (s.runInstr 0xB8 1 "BISPSW" [.word])

/-- R1185 `BICPSW`, codepoint 0xB9; operands: WORD. -/
def execBicpsw (s : State) : Host.Outcome State Fault Refusal :=
  .next (s.runInstr 0xB9 1 "BICPSW" [.word])

/-- R1186 `POPR`, codepoint 0xBA; operands: WORD. -/
def execPopr (s : State) : Host.Outcome State Fault Refusal :=
  .next (s.runInstr 0xBA 1 "POPR" [.word])

/-- R1187 `PUSHR`, codepoint 0xBB; operands: WORD. -/
def execPushr (s : State) : Host.Outcome State Fault Refusal :=
  .next (s.runInstr 0xBB 1 "PUSHR" [.word])

/-- R1188 `CHMK`, codepoint 0xBC; operands: WORD. -/
def execChmk (s : State) : Host.Outcome State Fault Refusal :=
  .next (s.runInstr 0xBC 1 "CHMK" [.word])

/-- R1189 `CHME`, codepoint 0xBD; operands: WORD. -/
def execChme (s : State) : Host.Outcome State Fault Refusal :=
  .next (s.runInstr 0xBD 1 "CHME" [.word])

/-- R1190 `CHMS`, codepoint 0xBE; operands: WORD. -/
def execChms (s : State) : Host.Outcome State Fault Refusal :=
  .next (s.runInstr 0xBE 1 "CHMS" [.word])

/-- R1191 `CHMU`, codepoint 0xBF; operands: WORD. -/
def execChmu (s : State) : Host.Outcome State Fault Refusal :=
  .next (s.runInstr 0xBF 1 "CHMU" [.word])

end Sys2Proof.Machine
end

