-- ==== Sys2Proof/Machine/Dispatch.lean ====
section
/-! DEFINITION. exec: one arm per constructor of Instr, each one direct call of the instruction's meaning. -/
namespace Sys2Proof.Machine

def exec (i : Instr) (s : State) : Host.Outcome State Fault Refusal :=
  match i with
  | .halt => Sys2Proof.Machine.execHalt s
  | .nop => Sys2Proof.Machine.execNop s
  | .rei => Sys2Proof.Machine.execRei s
  | .bpt => Sys2Proof.Machine.execBpt s
  | .ret => Sys2Proof.Machine.execRet s
  | .rsb => Sys2Proof.Machine.execRsb s
  | .ldpctx => Sys2Proof.Machine.execLdpctx s
  | .svpctx => Sys2Proof.Machine.execSvpctx s
  | .cvtps => Sys2Proof.Machine.execCvtps s
  | .cvtsp => Sys2Proof.Machine.execCvtsp s
  | .index => Sys2Proof.Machine.execIndex s
  | .crc => Sys2Proof.Machine.execCrc s
  | .prober => Sys2Proof.Machine.execProber s
  | .probew => Sys2Proof.Machine.execProbew s
  | .insque => Sys2Proof.Machine.execInsque s
  | .remque => Sys2Proof.Machine.execRemque s
  | .bsbb => Sys2Proof.Machine.execBsbb s
  | .brb => Sys2Proof.Machine.execBrb s
  | .bneq => Sys2Proof.Machine.execBneq s
  | .beql => Sys2Proof.Machine.execBeql s
  | .bgtr => Sys2Proof.Machine.execBgtr s
  | .bleq => Sys2Proof.Machine.execBleq s
  | .jsb => Sys2Proof.Machine.execJsb s
  | .jmp => Sys2Proof.Machine.execJmp s
  | .bgeq => Sys2Proof.Machine.execBgeq s
  | .blss => Sys2Proof.Machine.execBlss s
  | .bgtru => Sys2Proof.Machine.execBgtru s
  | .blequ => Sys2Proof.Machine.execBlequ s
  | .bvc => Sys2Proof.Machine.execBvc s
  | .bvs => Sys2Proof.Machine.execBvs s
  | .bgequ => Sys2Proof.Machine.execBgequ s
  | .blssu => Sys2Proof.Machine.execBlssu s
  | .addp4 => Sys2Proof.Machine.execAddp4 s
  | .addp6 => Sys2Proof.Machine.execAddp6 s
  | .subp4 => Sys2Proof.Machine.execSubp4 s
  | .subp6 => Sys2Proof.Machine.execSubp6 s
  | .cvtpt => Sys2Proof.Machine.execCvtpt s
  | .mulp => Sys2Proof.Machine.execMulp s
  | .cvttp => Sys2Proof.Machine.execCvttp s
  | .divp => Sys2Proof.Machine.execDivp s
  | .movc3 => Sys2Proof.Machine.execMovc3 s
  | .cmpc3 => Sys2Proof.Machine.execCmpc3 s
  | .scanc => Sys2Proof.Machine.execScanc s
  | .spanc => Sys2Proof.Machine.execSpanc s
  | .movc5 => Sys2Proof.Machine.execMovc5 s
  | .cmpc5 => Sys2Proof.Machine.execCmpc5 s
  | .movtc => Sys2Proof.Machine.execMovtc s
  | .movtuc => Sys2Proof.Machine.execMovtuc s
  | .bsbw => Sys2Proof.Machine.execBsbw s
  | .brw => Sys2Proof.Machine.execBrw s
  | .cvtwl => Sys2Proof.Machine.execCvtwl s
  | .cvtwb => Sys2Proof.Machine.execCvtwb s
  | .movp => Sys2Proof.Machine.execMovp s
  | .cmpp3 => Sys2Proof.Machine.execCmpp3 s
  | .cvtpl => Sys2Proof.Machine.execCvtpl s
  | .cmpp4 => Sys2Proof.Machine.execCmpp4 s
  | .editpc => Sys2Proof.Machine.execEditpc s
  | .matchc => Sys2Proof.Machine.execMatchc s
  | .locc => Sys2Proof.Machine.execLocc s
  | .skpc => Sys2Proof.Machine.execSkpc s
  | .movzwl => Sys2Proof.Machine.execMovzwl s
  | .acbw => Sys2Proof.Machine.execAcbw s
  | .movaw => Sys2Proof.Machine.execMovaw s
  | .pushaw => Sys2Proof.Machine.execPushaw s
  | .addf2 => Sys2Proof.Machine.execAddf2 s
  | .addf3 => Sys2Proof.Machine.execAddf3 s
  | .subf2 => Sys2Proof.Machine.execSubf2 s
  | .subf3 => Sys2Proof.Machine.execSubf3 s
  | .mulf2 => Sys2Proof.Machine.execMulf2 s
  | .mulf3 => Sys2Proof.Machine.execMulf3 s
  | .divf2 => Sys2Proof.Machine.execDivf2 s
  | .divf3 => Sys2Proof.Machine.execDivf3 s
  | .cvtfb => Sys2Proof.Machine.execCvtfb s
  | .cvtfw => Sys2Proof.Machine.execCvtfw s
  | .cvtfl => Sys2Proof.Machine.execCvtfl s
  | .cvtrfl => Sys2Proof.Machine.execCvtrfl s
  | .cvtbf => Sys2Proof.Machine.execCvtbf s
  | .cvtwf => Sys2Proof.Machine.execCvtwf s
  | .cvtlf => Sys2Proof.Machine.execCvtlf s
  | .acbf => Sys2Proof.Machine.execAcbf s
  | .movf => Sys2Proof.Machine.execMovf s
  | .cmpf => Sys2Proof.Machine.execCmpf s
  | .mnegf => Sys2Proof.Machine.execMnegf s
  | .tstf => Sys2Proof.Machine.execTstf s
  | .emodf => Sys2Proof.Machine.execEmodf s
  | .polyf => Sys2Proof.Machine.execPolyf s
  | .cvtfd => Sys2Proof.Machine.execCvtfd s
  | .adawi => Sys2Proof.Machine.execAdawi s
  | .insqhi => Sys2Proof.Machine.execInsqhi s
  | .insqti => Sys2Proof.Machine.execInsqti s
  | .remqhi => Sys2Proof.Machine.execRemqhi s
  | .remqti => Sys2Proof.Machine.execRemqti s
  | .addd2 => Sys2Proof.Machine.execAddd2 s
  | .addd3 => Sys2Proof.Machine.execAddd3 s
  | .subd2 => Sys2Proof.Machine.execSubd2 s
  | .subd3 => Sys2Proof.Machine.execSubd3 s
  | .muld2 => Sys2Proof.Machine.execMuld2 s
  | .muld3 => Sys2Proof.Machine.execMuld3 s
  | .divd2 => Sys2Proof.Machine.execDivd2 s
  | .divd3 => Sys2Proof.Machine.execDivd3 s
  | .cvtdb => Sys2Proof.Machine.execCvtdb s
  | .cvtdw => Sys2Proof.Machine.execCvtdw s
  | .cvtdl => Sys2Proof.Machine.execCvtdl s
  | .cvtrdl => Sys2Proof.Machine.execCvtrdl s
  | .cvtbd => Sys2Proof.Machine.execCvtbd s
  | .cvtwd => Sys2Proof.Machine.execCvtwd s
  | .cvtld => Sys2Proof.Machine.execCvtld s
  | .acbd => Sys2Proof.Machine.execAcbd s
  | .movd => Sys2Proof.Machine.execMovd s
  | .cmpd => Sys2Proof.Machine.execCmpd s
  | .mnegd => Sys2Proof.Machine.execMnegd s
  | .tstd => Sys2Proof.Machine.execTstd s
  | .emodd => Sys2Proof.Machine.execEmodd s
  | .polyd => Sys2Proof.Machine.execPolyd s
  | .cvtdf => Sys2Proof.Machine.execCvtdf s
  | .ashl => Sys2Proof.Machine.execAshl s
  | .ashq => Sys2Proof.Machine.execAshq s
  | .emul => Sys2Proof.Machine.execEmul s
  | .ediv => Sys2Proof.Machine.execEdiv s
  | .clrq => Sys2Proof.Machine.execClrq s
  | .movq => Sys2Proof.Machine.execMovq s
  | .movaq => Sys2Proof.Machine.execMovaq s
  | .pushaq => Sys2Proof.Machine.execPushaq s
  | .addb2 => Sys2Proof.Machine.execAddb2 s
  | .addb3 => Sys2Proof.Machine.execAddb3 s
  | .subb2 => Sys2Proof.Machine.execSubb2 s
  | .subb3 => Sys2Proof.Machine.execSubb3 s
  | .mulb2 => Sys2Proof.Machine.execMulb2 s
  | .mulb3 => Sys2Proof.Machine.execMulb3 s
  | .divb2 => Sys2Proof.Machine.execDivb2 s
  | .divb3 => Sys2Proof.Machine.execDivb3 s
  | .bisb2 => Sys2Proof.Machine.execBisb2 s
  | .bisb3 => Sys2Proof.Machine.execBisb3 s
  | .bicb2 => Sys2Proof.Machine.execBicb2 s
  | .bicb3 => Sys2Proof.Machine.execBicb3 s
  | .xorb2 => Sys2Proof.Machine.execXorb2 s
  | .xorb3 => Sys2Proof.Machine.execXorb3 s
  | .mnegb => Sys2Proof.Machine.execMnegb s
  | .caseb => Sys2Proof.Machine.execCaseb s
  | .movb => Sys2Proof.Machine.execMovb s
  | .cmpb => Sys2Proof.Machine.execCmpb s
  | .mcomb => Sys2Proof.Machine.execMcomb s
  | .bitb => Sys2Proof.Machine.execBitb s
  | .clrb => Sys2Proof.Machine.execClrb s
  | .tstb => Sys2Proof.Machine.execTstb s
  | .incb => Sys2Proof.Machine.execIncb s
  | .decb => Sys2Proof.Machine.execDecb s
  | .cvtbl => Sys2Proof.Machine.execCvtbl s
  | .cvtbw => Sys2Proof.Machine.execCvtbw s
  | .movzbl => Sys2Proof.Machine.execMovzbl s
  | .movzbw => Sys2Proof.Machine.execMovzbw s
  | .rotl => Sys2Proof.Machine.execRotl s
  | .acbb => Sys2Proof.Machine.execAcbb s
  | .movab => Sys2Proof.Machine.execMovab s
  | .pushab => Sys2Proof.Machine.execPushab s
  | .addw2 => Sys2Proof.Machine.execAddw2 s
  | .addw3 => Sys2Proof.Machine.execAddw3 s
  | .subw2 => Sys2Proof.Machine.execSubw2 s
  | .subw3 => Sys2Proof.Machine.execSubw3 s
  | .mulw2 => Sys2Proof.Machine.execMulw2 s
  | .mulw3 => Sys2Proof.Machine.execMulw3 s
  | .divw2 => Sys2Proof.Machine.execDivw2 s
  | .divw3 => Sys2Proof.Machine.execDivw3 s
  | .bisw2 => Sys2Proof.Machine.execBisw2 s
  | .bisw3 => Sys2Proof.Machine.execBisw3 s
  | .bicw2 => Sys2Proof.Machine.execBicw2 s
  | .bicw3 => Sys2Proof.Machine.execBicw3 s
  | .xorw2 => Sys2Proof.Machine.execXorw2 s
  | .xorw3 => Sys2Proof.Machine.execXorw3 s
  | .mnegw => Sys2Proof.Machine.execMnegw s
  | .casew => Sys2Proof.Machine.execCasew s
  | .movw => Sys2Proof.Machine.execMovw s
  | .cmpw => Sys2Proof.Machine.execCmpw s
  | .mcomw => Sys2Proof.Machine.execMcomw s
  | .bitw => Sys2Proof.Machine.execBitw s
  | .clrw => Sys2Proof.Machine.execClrw s
  | .tstw => Sys2Proof.Machine.execTstw s
  | .incw => Sys2Proof.Machine.execIncw s
  | .decw => Sys2Proof.Machine.execDecw s
  | .bispsw => Sys2Proof.Machine.execBispsw s
  | .bicpsw => Sys2Proof.Machine.execBicpsw s
  | .popr => Sys2Proof.Machine.execPopr s
  | .pushr => Sys2Proof.Machine.execPushr s
  | .chmk => Sys2Proof.Machine.execChmk s
  | .chme => Sys2Proof.Machine.execChme s
  | .chms => Sys2Proof.Machine.execChms s
  | .chmu => Sys2Proof.Machine.execChmu s
  | .addl2 => Sys2Proof.Machine.execAddl2 s
  | .addl3 => Sys2Proof.Machine.execAddl3 s
  | .subl2 => Sys2Proof.Machine.execSubl2 s
  | .subl3 => Sys2Proof.Machine.execSubl3 s
  | .mull2 => Sys2Proof.Machine.execMull2 s
  | .mull3 => Sys2Proof.Machine.execMull3 s
  | .divl2 => Sys2Proof.Machine.execDivl2 s
  | .divl3 => Sys2Proof.Machine.execDivl3 s
  | .bisl2 => Sys2Proof.Machine.execBisl2 s
  | .bisl3 => Sys2Proof.Machine.execBisl3 s
  | .bicl2 => Sys2Proof.Machine.execBicl2 s
  | .bicl3 => Sys2Proof.Machine.execBicl3 s
  | .xorl2 => Sys2Proof.Machine.execXorl2 s
  | .xorl3 => Sys2Proof.Machine.execXorl3 s
  | .mnegl => Sys2Proof.Machine.execMnegl s
  | .casel => Sys2Proof.Machine.execCasel s
  | .movl => Sys2Proof.Machine.execMovl s
  | .cmpl => Sys2Proof.Machine.execCmpl s
  | .mcoml => Sys2Proof.Machine.execMcoml s
  | .bitl => Sys2Proof.Machine.execBitl s
  | .clrl => Sys2Proof.Machine.execClrl s
  | .tstl => Sys2Proof.Machine.execTstl s
  | .incl => Sys2Proof.Machine.execIncl s
  | .decl => Sys2Proof.Machine.execDecl s
  | .adwc => Sys2Proof.Machine.execAdwc s
  | .sbwc => Sys2Proof.Machine.execSbwc s
  | .mtpr => Sys2Proof.Machine.execMtpr s
  | .mfpr => Sys2Proof.Machine.execMfpr s
  | .movpsl => Sys2Proof.Machine.execMovpsl s
  | .pushl => Sys2Proof.Machine.execPushl s
  | .moval => Sys2Proof.Machine.execMoval s
  | .pushal => Sys2Proof.Machine.execPushal s
  | .bbs => Sys2Proof.Machine.execBbs s
  | .bbc => Sys2Proof.Machine.execBbc s
  | .bbss => Sys2Proof.Machine.execBbss s
  | .bbcs => Sys2Proof.Machine.execBbcs s
  | .bbsc => Sys2Proof.Machine.execBbsc s
  | .bbcc => Sys2Proof.Machine.execBbcc s
  | .bbssi => Sys2Proof.Machine.execBbssi s
  | .bbcci => Sys2Proof.Machine.execBbcci s
  | .blbs => Sys2Proof.Machine.execBlbs s
  | .blbc => Sys2Proof.Machine.execBlbc s
  | .ffs => Sys2Proof.Machine.execFfs s
  | .ffc => Sys2Proof.Machine.execFfc s
  | .cmpv => Sys2Proof.Machine.execCmpv s
  | .cmpzv => Sys2Proof.Machine.execCmpzv s
  | .extv => Sys2Proof.Machine.execExtv s
  | .extzv => Sys2Proof.Machine.execExtzv s
  | .insv => Sys2Proof.Machine.execInsv s
  | .acbl => Sys2Proof.Machine.execAcbl s
  | .aoblss => Sys2Proof.Machine.execAoblss s
  | .aobleq => Sys2Proof.Machine.execAobleq s
  | .sobgeq => Sys2Proof.Machine.execSobgeq s
  | .sobgtr => Sys2Proof.Machine.execSobgtr s
  | .cvtlb => Sys2Proof.Machine.execCvtlb s
  | .cvtlw => Sys2Proof.Machine.execCvtlw s
  | .ashp => Sys2Proof.Machine.execAshp s
  | .cvtlp => Sys2Proof.Machine.execCvtlp s
  | .callg => Sys2Proof.Machine.execCallg s
  | .calls => Sys2Proof.Machine.execCalls s
  | .xfc => Sys2Proof.Machine.execXfc s
  | .cvtdh => Sys2Proof.Machine.execCvtdh s
  | .cvtgf => Sys2Proof.Machine.execCvtgf s
  | .addg2 => Sys2Proof.Machine.execAddg2 s
  | .addg3 => Sys2Proof.Machine.execAddg3 s
  | .subg2 => Sys2Proof.Machine.execSubg2 s
  | .subg3 => Sys2Proof.Machine.execSubg3 s
  | .mulg2 => Sys2Proof.Machine.execMulg2 s
  | .mulg3 => Sys2Proof.Machine.execMulg3 s
  | .divg2 => Sys2Proof.Machine.execDivg2 s
  | .divg3 => Sys2Proof.Machine.execDivg3 s
  | .cvtgb => Sys2Proof.Machine.execCvtgb s
  | .cvtgw => Sys2Proof.Machine.execCvtgw s
  | .cvtgl => Sys2Proof.Machine.execCvtgl s
  | .cvtrgl => Sys2Proof.Machine.execCvtrgl s
  | .cvtbg => Sys2Proof.Machine.execCvtbg s
  | .cvtwg => Sys2Proof.Machine.execCvtwg s
  | .cvtlg => Sys2Proof.Machine.execCvtlg s
  | .acbg => Sys2Proof.Machine.execAcbg s
  | .movg => Sys2Proof.Machine.execMovg s
  | .cmpg => Sys2Proof.Machine.execCmpg s
  | .mnegg => Sys2Proof.Machine.execMnegg s
  | .tstg => Sys2Proof.Machine.execTstg s
  | .emodg => Sys2Proof.Machine.execEmodg s
  | .polyg => Sys2Proof.Machine.execPolyg s
  | .cvtgh => Sys2Proof.Machine.execCvtgh s
  | .addh2 => Sys2Proof.Machine.execAddh2 s
  | .addh3 => Sys2Proof.Machine.execAddh3 s
  | .subh2 => Sys2Proof.Machine.execSubh2 s
  | .subh3 => Sys2Proof.Machine.execSubh3 s
  | .mulh2 => Sys2Proof.Machine.execMulh2 s
  | .mulh3 => Sys2Proof.Machine.execMulh3 s
  | .divh2 => Sys2Proof.Machine.execDivh2 s
  | .divh3 => Sys2Proof.Machine.execDivh3 s
  | .cvthb => Sys2Proof.Machine.execCvthb s
  | .cvthw => Sys2Proof.Machine.execCvthw s
  | .cvthl => Sys2Proof.Machine.execCvthl s
  | .cvtrhl => Sys2Proof.Machine.execCvtrhl s
  | .cvtbh => Sys2Proof.Machine.execCvtbh s
  | .cvtwh => Sys2Proof.Machine.execCvtwh s
  | .cvtlh => Sys2Proof.Machine.execCvtlh s
  | .acbh => Sys2Proof.Machine.execAcbh s
  | .movh => Sys2Proof.Machine.execMovh s
  | .cmph => Sys2Proof.Machine.execCmph s
  | .mnegh => Sys2Proof.Machine.execMnegh s
  | .tsth => Sys2Proof.Machine.execTsth s
  | .emodh => Sys2Proof.Machine.execEmodh s
  | .polyh => Sys2Proof.Machine.execPolyh s
  | .cvthg => Sys2Proof.Machine.execCvthg s
  | .clro => Sys2Proof.Machine.execClro s
  | .movo => Sys2Proof.Machine.execMovo s
  | .movao => Sys2Proof.Machine.execMovao s
  | .pushao => Sys2Proof.Machine.execPushao s
  | .cvtfh => Sys2Proof.Machine.execCvtfh s
  | .cvtfg => Sys2Proof.Machine.execCvtfg s
  | .cvthf => Sys2Proof.Machine.execCvthf s
  | .cvthd => Sys2Proof.Machine.execCvthd s

end Sys2Proof.Machine
end

