-- ==== Sys2Proof/Machine/HostPort.lean ====
section
/-! DEFINITION. The host's side: the load port (20_memory R82), the register map (10_state R50), reset (70 R340), the
inputs of the schedule, and the transactions that an image gives (20_memory R100, 70 R342). -/
namespace Sys2Proof.Machine

/-- `Load(offset, bytes)` (20_memory R82): rejected whole while RUNNING or where it would exceed MEM_SIZE. -/
def State.load (s : State) (offset : Nat) (bytes : List Byte) : State :=
  if s.phase.running || decide (s.params.memSize < offset + bytes.length) then { s with loadErr := true }
  else { s with mem := s.mem.writeBytes offset bytes, loadErr := false }

/-- A host register write (10_state R50; 42_decode_loop R240; 70 R343). -/
def State.hostWrite (s : State) (reg : HostReg) (v : BitVec 32) : State :=
  match reg with
  | .csegSize => if s.phase.running then s else { s with csegSize := v }
  | .control => if v.getLsbD 0 && !s.phase.running then s.startRun else s
  | .status | .faultAddr | .faultSize | .faultStart | .faultInfo => s

/-- A host register read (10_state R50). -/
def State.hostRead (s : State) (reg : HostReg) : BitVec 32 :=
  match reg with
  | .csegSize => s.csegSize
  | .control => 0
  | .status => s.statusWord
  | .faultAddr => s.faultRegs.addr
  | .faultSize => s.faultRegs.size.setWidth 32
  | .faultStart => s.faultRegs.start
  | .faultInfo => s.faultInfoWord

/-- The number of a host register (10_state R50). -/
def HostReg.number : HostReg → Nat
  | .csegSize => 0 | .control => 1 | .status => 2 | .faultAddr => 3 | .faultSize => 4
  | .faultStart => 5 | .faultInfo => 6

/-- Reset, asserted in any state (70 R340): every piece of the block's state at its reset value, a held record dropped,
OPTABLE unchanged. What the parties outside do next and the free-value counter are not the block's (log entry 8). -/
def State.hostReset (s : State) : State :=
  { State.initial s.params with inputs := s.inputs, ready := s.ready, freeCount := s.freeCount }

/-- One input of the schedule; `engine` does nothing here (log entry 8). -/
def State.serve (s : State) : Input → State
  | .engine => s
  | .load offset bytes => s.load offset bytes
  | .write reg v => s.hostWrite reg v
  | .consumer r => { s with ready := r }
  | .reset => s.hostReset

/-- The host's transactions for an image: the bytes from offset 0x20 to address 0, the code-segment size of the bytes
[4,8), START (20_memory R100, 70 R342). An image with no such size field gives none: loading it fails outside the
block (log entry 17). DESIGN CHOICE (log entry 19): the list does not depend on whether the load is taken, so after a
rejected load, of an image longer than 0x20 + MEM_SIZE, CSEG_SIZE and START are still written. -/
def imageInputs (image : List Byte) : List Input :=
  if image.length < 8 then []
  else
    [.load 0 (image.drop 0x20),
     .write .csegSize (BitVec.ofNat 32 (leValue ((image.drop 4).take 4))),
     .write .control 1]

end Sys2Proof.Machine
end

