-- ==== Sys2Proof/Machine/Engine.lean ====
section
/-! DEFINITION. The engine by phase: the termination test, the opcode phase and the instruction it selects
(42_decode_loop R241, R248), DECODE_OPERANDS and EMIT (R242, R243, R254). One instruction is one step, as 10_state R56
allows (log entry 3). -/
namespace Sys2Proof.Machine

/-- FETCH_OPCODE below the end of the code segment: the opcode phase, then the instruction it selects (42_decode_loop
R248). -/
def State.fetchAndRun (s : State) : Host.Outcome State Fault Refusal :=
  match decodeOpcode s.params s.source s.pc with
  | .error f => .next (s.takeFault s.pc ⟨f, none⟩)
  | .ok (.known i, _) => exec i s
  | .ok (.otherRow cp cw d, _) => .next (s.runRow cp cw d)
  | .ok (.unknown cp cw, _) => .next (s.runUnknown cp cw)

/-- DECODE_OPERANDS (42_decode_loop R242): operand `k` is decoded at `pc`; after the last one the record is formed. The
one-step instructions never stop in this phase (log entries 3 and 13). -/
def State.operandStep (s : State) : Host.Outcome State Fault Refusal :=
  match s.desc with
  | none => .fault .noDescriptor
  | some d =>
    match d.tags[s.k]? with
    | none => .next { s with phase := .emit, out := some s.formRecord }
    | some c =>
      match resolveOperand s.params.indexChainLimit s.source c s.pc with
      | .error f => .next (s.takeFault s.start ⟨f, some s.cp⟩)
      | .ok (r, p) => .next { s with pc := p, k := s.k + 1, ops := s.ops ++ [r] }

/-- EMIT (42_decode_loop R243, R254): hold the record until the consumer accepts it. With nothing held yet the record is
formed first (log entry 13). -/
def State.emitStep (s : State) : State :=
  match s.out with
  | none => { s with out := some s.formRecord }
  | some r => if s.ready then s.accept r else s

/-- One step of the engine (42_decode_loop R241 to R254; 70 R341; 60_exceptions R308). -/
def State.engineStep (s : State) : Host.Outcome State Fault Refusal :=
  match s.phase with
  | .idle | .done | .fault => .next s
  | .fetchOpcode => if s.csegSize.toNat ≤ s.pc then .next { s with phase := .done } else s.fetchAndRun
  | .decodeOperands => s.operandStep
  | .emit => .next s.emitStep

/-- One step of the block and the parties outside: the oldest input, if there is one, and the engine otherwise. The
input `engine` leaves the step to the engine (log entry 8). -/
def State.blockStep (s : State) : Host.Outcome State Fault Refusal :=
  match s.inputs with
  | [] => s.engineStep
  | .engine :: rest => ({ s with inputs := rest } : State).engineStep
  | e :: rest => .next (({ s with inputs := rest } : State).serve e)

/-- The bytes of a table word (`tableBytes`) and 8 zero bytes, as far as they lie below MEM_SIZE. -/
def State.fetchWordBytes (s : State) (nbits w : Nat) : List Byte :=
  (tableBytes nbits w ++ List.replicate 8 0).take (s.params.memSize - s.pc)

/-- The state with a table word stored at `pc` and the engine about to fetch it: the load, the code-segment size and the
START of a run that the host would make (log entry 11). -/
def State.placeFetchWord (s : State) (nbits w : Nat) : State :=
  { s with
    mem      := s.mem.writeBytes s.pc (s.fetchWordBytes nbits w)
    csegSize := if s.pc < s.csegSize.toNat then s.csegSize else BitVec.ofNat 32 (s.pc + 1)
    phase    := .fetchOpcode
    out      := none
    inputs   := [] }

end Sys2Proof.Machine
end

