-- ==== Sys2Proof/Machine/Listing.lean ====
section
/-! DEFINITION. The listing view (43_listing): the text of a record as a pure function of it, with the default
spellings (RENDER, 93 I6; log entry 16). Text is built as lists of characters and made a string at the end. -/
namespace Sys2Proof.Machine

/-- One lowercase hexadecimal digit. -/
def hexDigit (d : Nat) : Char := if d < 10 then Char.ofNat (48 + d) else Char.ofNat (87 + d)

/-- Exactly `k` lowercase hexadecimal digits of `v` (43_listing R271, HPAD without its prefix). -/
def hexFixed : (k v : Nat) → List Char
  | 0, _ => []
  | k + 1, v => hexFixed k (v / 16) ++ [hexDigit (v % 16)]

/-- A digit list without leading zeros, at least one digit left. -/
def dropZeros : List Char → List Char
  | [] => []
  | [c] => [c]
  | c :: cs => if c = '0' then dropZeros cs else c :: cs

/-- `H32` (43_listing R271). -/
def h32 (v : Word) : List Char := '0' :: 'x' :: dropZeros (hexFixed 8 v.toNat)

/-- `HPAD` (43_listing R271). -/
def hpad (v k : Nat) : List Char := '0' :: 'x' :: hexFixed k v

/-- `DEC` of a short literal, 0 to 63 (43_listing R271, R274). -/
def dec6 (v : BitVec 6) : List Char :=
  if v.toNat < 10 then [hexDigit v.toNat] else [hexDigit (v.toNat / 10), hexDigit (v.toNat % 10)]

/-- `REG`: r0 to r13, sp, pc (10_state R43). -/
def regName (r : RegNo) : List Char :=
  match r.toNat with
  | 14 => ['s', 'p']
  | 15 => ['p', 'c']
  | n => if n < 10 then ['r', hexDigit n] else ['r', '1', hexDigit (n - 10)]

/-- `FSUF` (43_listing R272). -/
def floatSuffix : Tag → List Char
  | .fFloat => [':', 'f'] | .dFloat => [':', 'd'] | .gFloat => [':', 'g'] | .hFloat => [':', 'h']
  | _ => []

/-- The mark of a deferred displacement (43_listing R283, R284). -/
def deferMark (deferred : Bool) : List Char := if deferred then ['@'] else []

/-- A register in parentheses. -/
def parenReg (r : RegNo) : List Char := '(' :: regName r ++ [')']

/-- The text of an operand record, by class (43_listing R274 to R285). -/
def renderOperand : OperandRecord → List Char
  | .shortLiteral h v => "S^#".toList ++ dec6 v ++ floatSuffix h.tag
  | .indexed _ x base => renderOperand base ++ '[' :: regName x ++ [']']
  | .register _ r => regName r
  | .registerDeferred _ r => parenReg r
  | .autodecrement _ r => '-' :: parenReg r
  | .autoincrement _ r => parenReg r ++ ['+']
  | .immediate h v w => "I^#".toList ++ hpad v (2 * w) ++ floatSuffix h.tag
  | .autoincrementDeferred _ r => '@' :: parenReg r ++ ['+']
  | .absolute _ a => '@' :: '#' :: h32 a
  | .displacement _ r _ d deferred => deferMark deferred ++ h32 d ++ parenReg r
  | .pcRelative _ _ _ deferred t => deferMark deferred ++ h32 t
  | .branch _ _ _ t => h32 t

/-- `lower` on one character: A to Z to a to z (43_listing R286). -/
def lowerChar (c : Char) : Char :=
  if 65 ≤ c.toNat ∧ c.toNat ≤ 90 then Char.ofNat (c.toNat + 32) else c

/-- The operands' texts with a comma between two of them (43_listing R286). -/
def joinOperands : List OperandRecord → List Char
  | [] => []
  | [o] => renderOperand o
  | o :: os => renderOperand o ++ ',' :: joinOperands os

/-- The instruction text of a record (43_listing R286, R287). -/
def renderInstr (r : Record) : List Char :=
  match r.mnemonic with
  | none => ".word ".toList ++ hpad r.cp.toNat (2 * r.cw)
  | some m =>
    match r.ops with
    | [] => m.toList.map lowerChar
    | os => m.toList.map lowerChar ++ ' ' :: joinOperands os

/-- Bytes in rows of 4, the last one perhaps shorter (43_listing R288). -/
def rowsOf4 : List Byte → List (List Byte)
  | a :: b :: c :: d :: rest => [a, b, c, d] :: rowsOf4 rest
  | [] => []
  | short => [short]

/-- A row's bytes, two digits each, one space between (43_listing R290). -/
def renderBytes : List Byte → List Char
  | [] => []
  | [b] => hexFixed 2 b.toNat
  | b :: bs => hexFixed 2 b.toNat ++ ' ' :: renderBytes bs

/-- Spaces on the right up to `n` characters. -/
def padRight (n : Nat) (cs : List Char) : List Char := cs ++ List.replicate (n - cs.length) ' '

/-- A row's prefix: its first address in 8 digits and the separator (43_listing R289). -/
def rowPrefix (a : Nat) : List Char := hexFixed 8 a ++ [':', ' ']

/-- The rows after row 0: prefix and bytes only (43_listing R292). -/
def laterRows (a : Nat) : List (List Byte) → List (List Char)
  | [] => []
  | row :: rows => (rowPrefix a ++ renderBytes row) :: laterRows (a + 4) rows

/-- The lines of a record: row 0 padded to 11 characters of bytes, two spaces and the text; then the other rows
(43_listing R288 to R292). -/
def listingLines (r : Record) : List (List Char) :=
  match rowsOf4 r.bytes with
  | [] => []
  | row :: rows =>
    (rowPrefix r.start ++ padRight 11 (renderBytes row) ++ ' ' :: ' ' :: renderInstr r) :: laterRows (r.start + 4) rows

/-- `Listing(rec)` (43_listing R270). -/
def listing (r : Record) : List String := (listingLines r).map String.ofList

/-- The listing of a run: the lines of its records in order, each ended by one line feed (43_listing R293). -/
def listingOfRun (rs : List Record) : String :=
  String.ofList (rs.flatMap (fun r => (listingLines r).flatMap (fun l => l ++ ['\n'])))

end Sys2Proof.Machine
end

