-- ==== Sys2Proof/Machine/Run.lean ====
section
/-! DEFINITION. The whole-instruction and whole-run functions of 42_decode_loop R248 and R249, as functions of MEM and the
parameters alone; the steps of the machine are measured against them. -/
namespace Sys2Proof.Machine

/-- `n` steps of the machine, stopping at the first stop (the host's `Host.Core.run` of this machine, with the types
written out). -/
def stepN : Nat → State → Host.Outcome State Fault Refusal
  | 0, s => .next s
  | n + 1, s =>
    match step s with
    | .next t => stepN n t
    | .fault r => .fault r
    | .refused r => .refused r

/-- MEM of a block with parameters `P` as the bytes to decode. -/
def sourceOf (P : Params) (mem : Memory) : Source := ⟨P.memSize, mem.read⟩

/-- A descriptor's operands after the opcode, and the record (42_decode_loop R248). -/
def decodeRow (P : Params) (mem : Memory) (p : Nat) (cp : Codepoint) (cw : Nat) (d : Descriptor) (q : Nat) :
    Except InstrFault Record :=
  match resolveOperands P.indexChainLimit (sourceOf P mem) d.tags q with
  | .error f => .error ⟨f, some cp⟩
  | .ok (ops, e) => .ok (recordOver mem p e cp cw (some d.mnemonic) ops)

/-- `DecodeInstruction(MEM, p)` (42_decode_loop R248); the address after the instruction is the record's `stop`. -/
def decodeInstruction (P : Params) (mem : Memory) (p : Nat) : Except InstrFault Record :=
  match fetchOpcode P.escapeByte (sourceOf P mem) p with
  | .error f => .error ⟨f, none⟩
  | .ok (cp, cw, q) =>
    match P.optable cp with
    | none => .ok (recordOver mem p q cp cw none [])
    | some d => decodeRow P mem p cp cw d q

/-- How a run ends (42_decode_loop R249): DONE, or FAULT in the instruction at `start`. `unfinished` is a run cut
short by the number of instructions allowed, which `run` never is. -/
inductive RunEnd where
  | done
  | fault (start : Nat) (f : InstrFault)
  | unfinished
deriving DecidableEq, Repr

/-- At most `n` rounds of the loop of 42_decode_loop R249 from address `p`: the records and the end. -/
def runFrom (P : Params) (mem : Memory) (cseg : Nat) : (n p : Nat) → List Record × RunEnd
  | 0, _ => ([], .unfinished)
  | n + 1, p =>
    if cseg ≤ p then ([], .done)
    else
      match decodeInstruction P mem p with
      | .error f => ([], .fault p f)
      | .ok r =>
        let rest := runFrom P mem cseg n r.stop
        (r :: rest.1, rest.2)

/-- `Run(MEM, CSEG_SIZE)` (42_decode_loop R249): every instruction takes at least one byte, so min(CSEG_SIZE,
MEM_SIZE) records and one more round are enough. -/
def run (P : Params) (mem : Memory) (cseg : Nat) : List Record × RunEnd :=
  runFrom P mem cseg (min cseg P.memSize + 1) 0

end Sys2Proof.Machine
end

