-- ==== Sys2Proof/Safety.lean ====
section
/-! DEFINITION. The terms the statements are made in: bytes held in memory, the operand records an operand list has at an
address, records that follow one another, and the invariant of every state a run reaches. -/
namespace Sys2Proof.Machine

/-- The bytes `bs` stand from address `a`, all below the end of memory. -/
def Holds (src : Source) (a : Nat) (bs : List Byte) : Prop :=
  a + bs.length ≤ src.size ∧ ∀ j, j < bs.length → src.byte (a + j) = bs.getD j 0

/-- The operand records of operands that stand encoded one after another from `a`. -/
def operandRecordsAt : Nat → List Operand → List OperandRecord
  | _, [] => []
  | a, o :: os =>
    operandRecord a (a + (encodeOperand o).length) o :: operandRecordsAt (a + (encodeOperand o).length) os

/-- Operand records that follow one another from `a` to `b` with no gap (42_decode_loop R252). -/
def OpsContiguous : Nat → List OperandRecord → Nat → Prop
  | a, [], b => a = b
  | a, r :: rs, b => r.head.start = a ∧ a < r.head.stop ∧ OpsContiguous r.head.stop rs b

/-- The records `rs` are what decoding gives instruction after instruction from address `a`, below the end of the code
segment, and the last one ends at `b` (42_decode_loop R246, R249). -/
def Decodes (P : Params) (mem : Memory) (cseg : Nat) : Nat → List Record → Nat → Prop
  | a, [], b => a = b
  | a, r :: rs, b => a < cseg ∧ decodeInstruction P mem a = .ok r ∧ Decodes P mem cseg r.stop rs b

/-- The fault registers hold a value that 60_exceptions R301 gives: cleared without a cause, else a read width with
F_OOB, an invalid tag code with F_BAD_TAG, width 1 with F_INDEX_CHAIN; F_BAD_MODE never (R305). -/
def FaultRegs.Legal (f : FaultRegs) : Prop :=
  match f.cause with
  | .none => f = FaultRegs.clear
  | .oob => f.size.toNat ∈ [1, 2, 4, 8, 16] ∧ f.tag = 0 ∧ (f.cpv = false → f.cp = 0)
  | .badTag => f.size = 0 ∧ 11 ≤ f.tag.toNat ∧ f.cpv = true
  | .indexChain => f.size = 1 ∧ f.tag = 0 ∧ f.cpv = true
  | .badMode => False

/-- The run in progress: what has been accepted, and the record held, are the decoding of MEM from address 0 up to `pc`;
a record is held exactly in EMIT (42_decode_loop R240, R246, R249, R254). -/
def State.RunInv (s : State) : Prop :=
  match s.phase with
  | .fetchOpcode => s.out = none ∧ Decodes s.params s.mem s.csegSize.toNat 0 s.accepted s.pc
  | .emit => ∃ r, s.out = some r ∧ Decodes s.params s.mem s.csegSize.toNat 0 (s.accepted ++ [r]) s.pc
  | .idle | .done | .fault => s.out = none
  | .decodeOperands => False

/-- The invariant of the machine: MEM in canonical form below MEM_SIZE (20_memory R80), legal parameters (00_scope R9),
x[0] to x[14] zero (10_state R42), `pc` at most MEM_SIZE (R48), legal fault registers, a cause exactly in FAULT
(10_state R50), and the run in progress. -/
def State.Inv (s : State) : Prop :=
  s.mem.wf = true ∧ s.mem.below s.params.memSize = true ∧ s.params.Valid ∧
  s.x = Vector.replicate 15 0 ∧ s.pc ≤ s.params.memSize ∧
  s.faultRegs.Legal ∧ (s.faultRegs.cause ≠ .none ↔ s.phase = .fault) ∧ s.RunInv

/-- A row of the default table as 44, 45 and 46 write it: the instruction, its opcode bytes in fetch order, its
codepoint, mnemonic and operand tags. -/
structure WrittenRow where
  instr    : Instr
  opcode   : List Byte
  cp       : Codepoint
  mnemonic : String
  tags     : List Tag

/-- The state after an instruction at `pc` whose bytes are `opcode` and the encoded operands `ops` has been emitted: its
record in the output holding register, `pc` at its end, the control state of the instruction just decoded, and every
other field as before (42_decode_loop R243, R251; 10_state R46, R55). -/
def emittedState (s : State) (r : WrittenRow) (ops : List Operand) : State :=
  let bytes := r.opcode ++ ops.flatMap encodeOperand
  let recs := operandRecordsAt (s.pc + r.opcode.length) ops
  { s with
    pc    := s.pc + bytes.length
    phase := .emit
    start := s.pc
    cp    := r.cp
    cw    := r.opcode.length
    desc  := some ⟨r.mnemonic, r.tags.map Tag.code⟩
    k     := r.tags.length
    ops   := recs
    out   := some
      { start := s.pc, stop := s.pc + bytes.length, bytes := bytes, kind := .known, cp := r.cp,
        cw := r.opcode.length, mnemonic := some r.mnemonic, ops := recs } }

/-- Operands an instruction with these tags can be written with, within INDEX_CHAIN_LIMIT. -/
def OperandsFit (limit : Option Nat) (tags : List Tag) (ops : List Operand) : Prop :=
  ops.map Operand.tag = tags ∧ ops.all Operand.wellFormed = true ∧
  ops.all (fun o => chainAllowed limit o.indexBytes) = true

/-- The row completes: wherever its bytes, with any operands its tags admit, stand whole in memory at `pc`, exec answers
the next state in which its record is emitted. -/
def RowCompletes (r : WrittenRow) : Prop :=
  ∀ (s : State) (ops : List Operand), OperandsFit s.params.indexChainLimit r.tags ops →
    Holds s.source s.pc (r.opcode ++ ops.flatMap encodeOperand) →
    exec r.instr s = .next (emittedState s r ops)

/-- `sext_32` of a `k`-bit number `v` (00_scope R12). -/
def sextWord (k v : Nat) : Word :=
  BitVec.ofInt 32 (if v < 2 ^ (k - 1) then (v : Int) else (v : Int) - 2 ^ k)

/-- The displacement modes: mode nibble, field width in bytes, deferred (30_encoding R123). -/
def dispModes : List (Nat × Nat × Bool) :=
  [(0xA, 1, false), (0xB, 1, true), (0xC, 2, false), (0xD, 2, true), (0xE, 4, false), (0xF, 4, true)]

/-- The bytes a general specifier occupies by class, `w` the width of its tag (30_encoding R124). -/
def specifierLength (w : Nat) : Specifier → Nat
  | .shortLiteral _ | .register _ | .registerDeferred _ | .autodecrement _ | .autoincrement _
  | .autoincrementDeferred _ => 1
  | .immediate _ => 1 + w
  | .absolute _ => 5
  | .displacement _ d _ | .pcRelative d _ =>
    match d with
    | .byte _ => 2 | .word _ => 3 | .long _ => 5
  | .indexed _ base => 1 + specifierLength w base

end Sys2Proof.Machine
end

