-- ==== Sys2Proof/Certificates/Slice0/Obligations.lean ====
section
/-! DEFINITION. The statements for the provers. Each docstring names the rules of spec/ it formalises, or the log entry
where a clause rests on the model's own choice. -/
open Sys2Proof Sys2Proof.Machine

/-! ### Every instruction completes, by families of the opcode table -/

/-- The rows of rules R1000 to R1007 and R1016 to R1031 (with 42_decode_loop R248 and R243): exec of each instruction named here, with any
operands its tags admit, answers the next state with its record emitted and nothing else changed (one step for an
instruction: log entry 3). -/
def Obligations.SystemReturnAndByteBranchRowsEmitTheirRecords : Prop := ∀ r ∈ ([
    ⟨.halt, [0x00], 0x00, "HALT", []⟩,
    ⟨.nop, [0x01], 0x01, "NOP", []⟩,
    ⟨.rei, [0x02], 0x02, "REI", []⟩,
    ⟨.bpt, [0x03], 0x03, "BPT", []⟩,
    ⟨.ret, [0x04], 0x04, "RET", []⟩,
    ⟨.rsb, [0x05], 0x05, "RSB", []⟩,
    ⟨.ldpctx, [0x06], 0x06, "LDPCTX", []⟩,
    ⟨.svpctx, [0x07], 0x07, "SVPCTX", []⟩,
    ⟨.bsbb, [0x10], 0x10, "BSBB", [.bdisp8]⟩,
    ⟨.brb, [0x11], 0x11, "BRB", [.bdisp8]⟩,
    ⟨.bneq, [0x12], 0x12, "BNEQ", [.bdisp8]⟩,
    ⟨.beql, [0x13], 0x13, "BEQL", [.bdisp8]⟩,
    ⟨.bgtr, [0x14], 0x14, "BGTR", [.bdisp8]⟩,
    ⟨.bleq, [0x15], 0x15, "BLEQ", [.bdisp8]⟩,
    ⟨.jsb, [0x16], 0x16, "JSB", [.byte]⟩,
    ⟨.jmp, [0x17], 0x17, "JMP", [.byte]⟩,
    ⟨.bgeq, [0x18], 0x18, "BGEQ", [.bdisp8]⟩,
    ⟨.blss, [0x19], 0x19, "BLSS", [.bdisp8]⟩,
    ⟨.bgtru, [0x1A], 0x1A, "BGTRU", [.bdisp8]⟩,
    ⟨.blequ, [0x1B], 0x1B, "BLEQU", [.bdisp8]⟩,
    ⟨.bvc, [0x1C], 0x1C, "BVC", [.bdisp8]⟩,
    ⟨.bvs, [0x1D], 0x1D, "BVS", [.bdisp8]⟩,
    ⟨.bgequ, [0x1E], 0x1E, "BGEQU", [.bdisp8]⟩,
    ⟨.blssu, [0x1F], 0x1F, "BLSSU", [.bdisp8]⟩] : List WrittenRow), RowCompletes r

/-- The rows of rules R1008 to R1015 and R1088 to R1095 (with 42_decode_loop R248 and R243): exec of each instruction named here, with any
operands its tags admit, answers the next state with its record emitted and nothing else changed (one step for an
instruction: log entry 3). -/
def Obligations.DecimalAndQueueRowsEmitTheirRecords : Prop := ∀ r ∈ ([
    ⟨.cvtps, [0x08], 0x08, "CVTPS", [.word, .byte, .word, .byte]⟩,
    ⟨.cvtsp, [0x09], 0x09, "CVTSP", [.word, .byte, .word, .byte]⟩,
    ⟨.index, [0x0A], 0x0A, "INDEX", [.long, .long, .long, .long, .long, .long]⟩,
    ⟨.crc, [0x0B], 0x0B, "CRC", [.byte, .long, .word, .byte]⟩,
    ⟨.prober, [0x0C], 0x0C, "PROBER", [.byte, .word, .byte]⟩,
    ⟨.probew, [0x0D], 0x0D, "PROBEW", [.byte, .word, .byte]⟩,
    ⟨.insque, [0x0E], 0x0E, "INSQUE", [.byte, .byte]⟩,
    ⟨.remque, [0x0F], 0x0F, "REMQUE", [.byte, .long]⟩,
    ⟨.adawi, [0x58], 0x58, "ADAWI", [.word, .word]⟩,
    ⟨.insqhi, [0x5C], 0x5C, "INSQHI", [.byte, .quad]⟩,
    ⟨.insqti, [0x5D], 0x5D, "INSQTI", [.byte, .quad]⟩,
    ⟨.remqhi, [0x5E], 0x5E, "REMQHI", [.quad, .long]⟩,
    ⟨.remqti, [0x5F], 0x5F, "REMQTI", [.quad, .long]⟩] : List WrittenRow), RowCompletes r

/-- The rows of rules R1032 to R1063 (with 42_decode_loop R248 and R243): exec of each instruction named here, with any
operands its tags admit, answers the next state with its record emitted and nothing else changed (one step for an
instruction: log entry 3). -/
def Obligations.PackedDecimalStringAndWordBranchRowsEmitTheirRecords : Prop := ∀ r ∈ ([
    ⟨.addp4, [0x20], 0x20, "ADDP4", [.word, .byte, .word, .byte]⟩,
    ⟨.addp6, [0x21], 0x21, "ADDP6", [.word, .byte, .word, .byte, .word, .byte]⟩,
    ⟨.subp4, [0x22], 0x22, "SUBP4", [.word, .byte, .word, .byte]⟩,
    ⟨.subp6, [0x23], 0x23, "SUBP6", [.word, .byte, .word, .byte, .word, .byte]⟩,
    ⟨.cvtpt, [0x24], 0x24, "CVTPT", [.word, .byte, .byte, .word, .byte]⟩,
    ⟨.mulp, [0x25], 0x25, "MULP", [.word, .byte, .word, .byte, .word, .byte]⟩,
    ⟨.cvttp, [0x26], 0x26, "CVTTP", [.word, .byte, .byte, .word, .byte]⟩,
    ⟨.divp, [0x27], 0x27, "DIVP", [.word, .byte, .word, .byte, .word, .byte]⟩,
    ⟨.movc3, [0x28], 0x28, "MOVC3", [.word, .byte, .byte]⟩,
    ⟨.cmpc3, [0x29], 0x29, "CMPC3", [.word, .byte, .byte]⟩,
    ⟨.scanc, [0x2A], 0x2A, "SCANC", [.word, .byte, .byte, .byte]⟩,
    ⟨.spanc, [0x2B], 0x2B, "SPANC", [.word, .byte, .byte, .byte]⟩,
    ⟨.movc5, [0x2C], 0x2C, "MOVC5", [.word, .byte, .byte, .word, .byte]⟩,
    ⟨.cmpc5, [0x2D], 0x2D, "CMPC5", [.word, .byte, .byte, .word, .byte]⟩,
    ⟨.movtc, [0x2E], 0x2E, "MOVTC", [.word, .byte, .byte, .byte, .word, .byte]⟩,
    ⟨.movtuc, [0x2F], 0x2F, "MOVTUC", [.word, .byte, .byte, .byte, .word, .byte]⟩,
    ⟨.bsbw, [0x30], 0x30, "BSBW", [.bdisp16]⟩,
    ⟨.brw, [0x31], 0x31, "BRW", [.bdisp16]⟩,
    ⟨.cvtwl, [0x32], 0x32, "CVTWL", [.word, .long]⟩,
    ⟨.cvtwb, [0x33], 0x33, "CVTWB", [.word, .byte]⟩,
    ⟨.movp, [0x34], 0x34, "MOVP", [.word, .byte, .byte]⟩,
    ⟨.cmpp3, [0x35], 0x35, "CMPP3", [.word, .byte, .byte]⟩,
    ⟨.cvtpl, [0x36], 0x36, "CVTPL", [.word, .byte, .long]⟩,
    ⟨.cmpp4, [0x37], 0x37, "CMPP4", [.word, .byte, .word, .byte]⟩,
    ⟨.editpc, [0x38], 0x38, "EDITPC", [.word, .byte, .byte, .byte]⟩,
    ⟨.matchc, [0x39], 0x39, "MATCHC", [.word, .byte, .word, .byte]⟩,
    ⟨.locc, [0x3A], 0x3A, "LOCC", [.byte, .word, .byte]⟩,
    ⟨.skpc, [0x3B], 0x3B, "SKPC", [.byte, .word, .byte]⟩,
    ⟨.movzwl, [0x3C], 0x3C, "MOVZWL", [.word, .long]⟩,
    ⟨.acbw, [0x3D], 0x3D, "ACBW", [.word, .word, .word, .bdisp16]⟩,
    ⟨.movaw, [0x3E], 0x3E, "MOVAW", [.word, .long]⟩,
    ⟨.pushaw, [0x3F], 0x3F, "PUSHAW", [.word]⟩] : List WrittenRow), RowCompletes r

/-- The rows of rules R1064 to R1086 (with 42_decode_loop R248 and R243): exec of each instruction named here, with any
operands its tags admit, answers the next state with its record emitted and nothing else changed (one step for an
instruction: log entry 3). -/
def Obligations.FFloatingRowsEmitTheirRecords : Prop := ∀ r ∈ ([
    ⟨.addf2, [0x40], 0x40, "ADDF2", [.fFloat, .fFloat]⟩,
    ⟨.addf3, [0x41], 0x41, "ADDF3", [.fFloat, .fFloat, .fFloat]⟩,
    ⟨.subf2, [0x42], 0x42, "SUBF2", [.fFloat, .fFloat]⟩,
    ⟨.subf3, [0x43], 0x43, "SUBF3", [.fFloat, .fFloat, .fFloat]⟩,
    ⟨.mulf2, [0x44], 0x44, "MULF2", [.fFloat, .fFloat]⟩,
    ⟨.mulf3, [0x45], 0x45, "MULF3", [.fFloat, .fFloat, .fFloat]⟩,
    ⟨.divf2, [0x46], 0x46, "DIVF2", [.fFloat, .fFloat]⟩,
    ⟨.divf3, [0x47], 0x47, "DIVF3", [.fFloat, .fFloat, .fFloat]⟩,
    ⟨.cvtfb, [0x48], 0x48, "CVTFB", [.fFloat, .byte]⟩,
    ⟨.cvtfw, [0x49], 0x49, "CVTFW", [.fFloat, .word]⟩,
    ⟨.cvtfl, [0x4A], 0x4A, "CVTFL", [.fFloat, .long]⟩,
    ⟨.cvtrfl, [0x4B], 0x4B, "CVTRFL", [.fFloat, .long]⟩,
    ⟨.cvtbf, [0x4C], 0x4C, "CVTBF", [.byte, .fFloat]⟩,
    ⟨.cvtwf, [0x4D], 0x4D, "CVTWF", [.word, .fFloat]⟩,
    ⟨.cvtlf, [0x4E], 0x4E, "CVTLF", [.long, .fFloat]⟩,
    ⟨.acbf, [0x4F], 0x4F, "ACBF", [.fFloat, .fFloat, .fFloat, .bdisp16]⟩,
    ⟨.movf, [0x50], 0x50, "MOVF", [.fFloat, .fFloat]⟩,
    ⟨.cmpf, [0x51], 0x51, "CMPF", [.fFloat, .fFloat]⟩,
    ⟨.mnegf, [0x52], 0x52, "MNEGF", [.fFloat, .fFloat]⟩,
    ⟨.tstf, [0x53], 0x53, "TSTF", [.fFloat]⟩,
    ⟨.emodf, [0x54], 0x54, "EMODF", [.fFloat, .byte, .fFloat, .long, .fFloat]⟩,
    ⟨.polyf, [0x55], 0x55, "POLYF", [.fFloat, .word, .byte]⟩,
    ⟨.cvtfd, [0x56], 0x56, "CVTFD", [.fFloat, .dFloat]⟩] : List WrittenRow), RowCompletes r

/-- The rows of rules R1096 to R1118 (with 42_decode_loop R248 and R243): exec of each instruction named here, with any
operands its tags admit, answers the next state with its record emitted and nothing else changed (one step for an
instruction: log entry 3). -/
def Obligations.DFloatingRowsEmitTheirRecords : Prop := ∀ r ∈ ([
    ⟨.addd2, [0x60], 0x60, "ADDD2", [.dFloat, .dFloat]⟩,
    ⟨.addd3, [0x61], 0x61, "ADDD3", [.dFloat, .dFloat, .dFloat]⟩,
    ⟨.subd2, [0x62], 0x62, "SUBD2", [.dFloat, .dFloat]⟩,
    ⟨.subd3, [0x63], 0x63, "SUBD3", [.dFloat, .dFloat, .dFloat]⟩,
    ⟨.muld2, [0x64], 0x64, "MULD2", [.dFloat, .dFloat]⟩,
    ⟨.muld3, [0x65], 0x65, "MULD3", [.dFloat, .dFloat, .dFloat]⟩,
    ⟨.divd2, [0x66], 0x66, "DIVD2", [.dFloat, .dFloat]⟩,
    ⟨.divd3, [0x67], 0x67, "DIVD3", [.dFloat, .dFloat, .dFloat]⟩,
    ⟨.cvtdb, [0x68], 0x68, "CVTDB", [.dFloat, .byte]⟩,
    ⟨.cvtdw, [0x69], 0x69, "CVTDW", [.dFloat, .word]⟩,
    ⟨.cvtdl, [0x6A], 0x6A, "CVTDL", [.dFloat, .long]⟩,
    ⟨.cvtrdl, [0x6B], 0x6B, "CVTRDL", [.dFloat, .long]⟩,
    ⟨.cvtbd, [0x6C], 0x6C, "CVTBD", [.byte, .dFloat]⟩,
    ⟨.cvtwd, [0x6D], 0x6D, "CVTWD", [.word, .dFloat]⟩,
    ⟨.cvtld, [0x6E], 0x6E, "CVTLD", [.long, .dFloat]⟩,
    ⟨.acbd, [0x6F], 0x6F, "ACBD", [.dFloat, .dFloat, .dFloat, .bdisp16]⟩,
    ⟨.movd, [0x70], 0x70, "MOVD", [.dFloat, .dFloat]⟩,
    ⟨.cmpd, [0x71], 0x71, "CMPD", [.dFloat, .dFloat]⟩,
    ⟨.mnegd, [0x72], 0x72, "MNEGD", [.dFloat, .dFloat]⟩,
    ⟨.tstd, [0x73], 0x73, "TSTD", [.dFloat]⟩,
    ⟨.emodd, [0x74], 0x74, "EMODD", [.dFloat, .byte, .dFloat, .long, .dFloat]⟩,
    ⟨.polyd, [0x75], 0x75, "POLYD", [.dFloat, .word, .byte]⟩,
    ⟨.cvtdf, [0x76], 0x76, "CVTDF", [.dFloat, .fFloat]⟩] : List WrittenRow), RowCompletes r

/-- The rows of rules R1120 to R1127 and R2124 to R2127 (with 42_decode_loop R248 and R243): exec of each instruction named here, with any
operands its tags admit, answers the next state with its record emitted and nothing else changed (one step for an
instruction: log entry 3). -/
def Obligations.ShiftQuadwordAndOctawordRowsEmitTheirRecords : Prop := ∀ r ∈ ([
    ⟨.ashl, [0x78], 0x78, "ASHL", [.byte, .long, .long]⟩,
    ⟨.ashq, [0x79], 0x79, "ASHQ", [.byte, .quad, .quad]⟩,
    ⟨.emul, [0x7A], 0x7A, "EMUL", [.long, .long, .long, .quad]⟩,
    ⟨.ediv, [0x7B], 0x7B, "EDIV", [.long, .quad, .long, .long]⟩,
    ⟨.clrq, [0x7C], 0x7C, "CLRQ", [.quad]⟩,
    ⟨.movq, [0x7D], 0x7D, "MOVQ", [.quad, .quad]⟩,
    ⟨.movaq, [0x7E], 0x7E, "MOVAQ", [.quad, .long]⟩,
    ⟨.pushaq, [0x7F], 0x7F, "PUSHAQ", [.quad]⟩,
    ⟨.clro, [0xFD, 0x7C], 0xFD7C, "CLRO", [.octa]⟩,
    ⟨.movo, [0xFD, 0x7D], 0xFD7D, "MOVO", [.octa, .octa]⟩,
    ⟨.movao, [0xFD, 0x7E], 0xFD7E, "MOVAO", [.octa, .long]⟩,
    ⟨.pushao, [0xFD, 0x7F], 0xFD7F, "PUSHAO", [.octa]⟩] : List WrittenRow), RowCompletes r

/-- The rows of rules R1128 to R1159 (with 42_decode_loop R248 and R243): exec of each instruction named here, with any
operands its tags admit, answers the next state with its record emitted and nothing else changed (one step for an
instruction: log entry 3). -/
def Obligations.ByteIntegerRowsEmitTheirRecords : Prop := ∀ r ∈ ([
    ⟨.addb2, [0x80], 0x80, "ADDB2", [.byte, .byte]⟩,
    ⟨.addb3, [0x81], 0x81, "ADDB3", [.byte, .byte, .byte]⟩,
    ⟨.subb2, [0x82], 0x82, "SUBB2", [.byte, .byte]⟩,
    ⟨.subb3, [0x83], 0x83, "SUBB3", [.byte, .byte, .byte]⟩,
    ⟨.mulb2, [0x84], 0x84, "MULB2", [.byte, .byte]⟩,
    ⟨.mulb3, [0x85], 0x85, "MULB3", [.byte, .byte, .byte]⟩,
    ⟨.divb2, [0x86], 0x86, "DIVB2", [.byte, .byte]⟩,
    ⟨.divb3, [0x87], 0x87, "DIVB3", [.byte, .byte, .byte]⟩,
    ⟨.bisb2, [0x88], 0x88, "BISB2", [.byte, .byte]⟩,
    ⟨.bisb3, [0x89], 0x89, "BISB3", [.byte, .byte, .byte]⟩,
    ⟨.bicb2, [0x8A], 0x8A, "BICB2", [.byte, .byte]⟩,
    ⟨.bicb3, [0x8B], 0x8B, "BICB3", [.byte, .byte, .byte]⟩,
    ⟨.xorb2, [0x8C], 0x8C, "XORB2", [.byte, .byte]⟩,
    ⟨.xorb3, [0x8D], 0x8D, "XORB3", [.byte, .byte, .byte]⟩,
    ⟨.mnegb, [0x8E], 0x8E, "MNEGB", [.byte, .byte]⟩,
    ⟨.caseb, [0x8F], 0x8F, "CASEB", [.byte, .byte, .byte]⟩,
    ⟨.movb, [0x90], 0x90, "MOVB", [.byte, .byte]⟩,
    ⟨.cmpb, [0x91], 0x91, "CMPB", [.byte, .byte]⟩,
    ⟨.mcomb, [0x92], 0x92, "MCOMB", [.byte, .byte]⟩,
    ⟨.bitb, [0x93], 0x93, "BITB", [.byte, .byte]⟩,
    ⟨.clrb, [0x94], 0x94, "CLRB", [.byte]⟩,
    ⟨.tstb, [0x95], 0x95, "TSTB", [.byte]⟩,
    ⟨.incb, [0x96], 0x96, "INCB", [.byte]⟩,
    ⟨.decb, [0x97], 0x97, "DECB", [.byte]⟩,
    ⟨.cvtbl, [0x98], 0x98, "CVTBL", [.byte, .long]⟩,
    ⟨.cvtbw, [0x99], 0x99, "CVTBW", [.byte, .word]⟩,
    ⟨.movzbl, [0x9A], 0x9A, "MOVZBL", [.byte, .long]⟩,
    ⟨.movzbw, [0x9B], 0x9B, "MOVZBW", [.byte, .word]⟩,
    ⟨.rotl, [0x9C], 0x9C, "ROTL", [.byte, .long, .long]⟩,
    ⟨.acbb, [0x9D], 0x9D, "ACBB", [.byte, .byte, .byte, .bdisp16]⟩,
    ⟨.movab, [0x9E], 0x9E, "MOVAB", [.byte, .long]⟩,
    ⟨.pushab, [0x9F], 0x9F, "PUSHAB", [.byte]⟩] : List WrittenRow), RowCompletes r

/-- The rows of rules R1160 to R1191 (with 42_decode_loop R248 and R243): exec of each instruction named here, with any
operands its tags admit, answers the next state with its record emitted and nothing else changed (one step for an
instruction: log entry 3). -/
def Obligations.WordIntegerRowsEmitTheirRecords : Prop := ∀ r ∈ ([
    ⟨.addw2, [0xA0], 0xA0, "ADDW2", [.word, .word]⟩,
    ⟨.addw3, [0xA1], 0xA1, "ADDW3", [.word, .word, .word]⟩,
    ⟨.subw2, [0xA2], 0xA2, "SUBW2", [.word, .word]⟩,
    ⟨.subw3, [0xA3], 0xA3, "SUBW3", [.word, .word, .word]⟩,
    ⟨.mulw2, [0xA4], 0xA4, "MULW2", [.word, .word]⟩,
    ⟨.mulw3, [0xA5], 0xA5, "MULW3", [.word, .word, .word]⟩,
    ⟨.divw2, [0xA6], 0xA6, "DIVW2", [.word, .word]⟩,
    ⟨.divw3, [0xA7], 0xA7, "DIVW3", [.word, .word, .word]⟩,
    ⟨.bisw2, [0xA8], 0xA8, "BISW2", [.word, .word]⟩,
    ⟨.bisw3, [0xA9], 0xA9, "BISW3", [.word, .word, .word]⟩,
    ⟨.bicw2, [0xAA], 0xAA, "BICW2", [.word, .word]⟩,
    ⟨.bicw3, [0xAB], 0xAB, "BICW3", [.word, .word, .word]⟩,
    ⟨.xorw2, [0xAC], 0xAC, "XORW2", [.word, .word]⟩,
    ⟨.xorw3, [0xAD], 0xAD, "XORW3", [.word, .word, .word]⟩,
    ⟨.mnegw, [0xAE], 0xAE, "MNEGW", [.word, .word]⟩,
    ⟨.casew, [0xAF], 0xAF, "CASEW", [.word, .word, .word]⟩,
    ⟨.movw, [0xB0], 0xB0, "MOVW", [.word, .word]⟩,
    ⟨.cmpw, [0xB1], 0xB1, "CMPW", [.word, .word]⟩,
    ⟨.mcomw, [0xB2], 0xB2, "MCOMW", [.word, .word]⟩,
    ⟨.bitw, [0xB3], 0xB3, "BITW", [.word, .word]⟩,
    ⟨.clrw, [0xB4], 0xB4, "CLRW", [.word]⟩,
    ⟨.tstw, [0xB5], 0xB5, "TSTW", [.word]⟩,
    ⟨.incw, [0xB6], 0xB6, "INCW", [.word]⟩,
    ⟨.decw, [0xB7], 0xB7, "DECW", [.word]⟩,
    ⟨.bispsw, [0xB8], 0xB8, "BISPSW", [.word]⟩,
    ⟨.bicpsw, [0xB9], 0xB9, "BICPSW", [.word]⟩,
    ⟨.popr, [0xBA], 0xBA, "POPR", [.word]⟩,
    ⟨.pushr, [0xBB], 0xBB, "PUSHR", [.word]⟩,
    ⟨.chmk, [0xBC], 0xBC, "CHMK", [.word]⟩,
    ⟨.chme, [0xBD], 0xBD, "CHME", [.word]⟩,
    ⟨.chms, [0xBE], 0xBE, "CHMS", [.word]⟩,
    ⟨.chmu, [0xBF], 0xBF, "CHMU", [.word]⟩] : List WrittenRow), RowCompletes r

/-- The rows of rules R1192 to R1223 (with 42_decode_loop R248 and R243): exec of each instruction named here, with any
operands its tags admit, answers the next state with its record emitted and nothing else changed (one step for an
instruction: log entry 3). -/
def Obligations.LongwordIntegerRowsEmitTheirRecords : Prop := ∀ r ∈ ([
    ⟨.addl2, [0xC0], 0xC0, "ADDL2", [.long, .long]⟩,
    ⟨.addl3, [0xC1], 0xC1, "ADDL3", [.long, .long, .long]⟩,
    ⟨.subl2, [0xC2], 0xC2, "SUBL2", [.long, .long]⟩,
    ⟨.subl3, [0xC3], 0xC3, "SUBL3", [.long, .long, .long]⟩,
    ⟨.mull2, [0xC4], 0xC4, "MULL2", [.long, .long]⟩,
    ⟨.mull3, [0xC5], 0xC5, "MULL3", [.long, .long, .long]⟩,
    ⟨.divl2, [0xC6], 0xC6, "DIVL2", [.long, .long]⟩,
    ⟨.divl3, [0xC7], 0xC7, "DIVL3", [.long, .long, .long]⟩,
    ⟨.bisl2, [0xC8], 0xC8, "BISL2", [.long, .long]⟩,
    ⟨.bisl3, [0xC9], 0xC9, "BISL3", [.long, .long, .long]⟩,
    ⟨.bicl2, [0xCA], 0xCA, "BICL2", [.long, .long]⟩,
    ⟨.bicl3, [0xCB], 0xCB, "BICL3", [.long, .long, .long]⟩,
    ⟨.xorl2, [0xCC], 0xCC, "XORL2", [.long, .long]⟩,
    ⟨.xorl3, [0xCD], 0xCD, "XORL3", [.long, .long, .long]⟩,
    ⟨.mnegl, [0xCE], 0xCE, "MNEGL", [.long, .long]⟩,
    ⟨.casel, [0xCF], 0xCF, "CASEL", [.long, .long, .long]⟩,
    ⟨.movl, [0xD0], 0xD0, "MOVL", [.long, .long]⟩,
    ⟨.cmpl, [0xD1], 0xD1, "CMPL", [.long, .long]⟩,
    ⟨.mcoml, [0xD2], 0xD2, "MCOML", [.long, .long]⟩,
    ⟨.bitl, [0xD3], 0xD3, "BITL", [.long, .long]⟩,
    ⟨.clrl, [0xD4], 0xD4, "CLRL", [.long]⟩,
    ⟨.tstl, [0xD5], 0xD5, "TSTL", [.long]⟩,
    ⟨.incl, [0xD6], 0xD6, "INCL", [.long]⟩,
    ⟨.decl, [0xD7], 0xD7, "DECL", [.long]⟩,
    ⟨.adwc, [0xD8], 0xD8, "ADWC", [.long, .long]⟩,
    ⟨.sbwc, [0xD9], 0xD9, "SBWC", [.long, .long]⟩,
    ⟨.mtpr, [0xDA], 0xDA, "MTPR", [.long, .long]⟩,
    ⟨.mfpr, [0xDB], 0xDB, "MFPR", [.long, .long]⟩,
    ⟨.movpsl, [0xDC], 0xDC, "MOVPSL", [.long]⟩,
    ⟨.pushl, [0xDD], 0xDD, "PUSHL", [.long]⟩,
    ⟨.moval, [0xDE], 0xDE, "MOVAL", [.long, .long]⟩,
    ⟨.pushal, [0xDF], 0xDF, "PUSHAL", [.long]⟩] : List WrittenRow), RowCompletes r

/-- The rows of rules R1224 to R1252 (with 42_decode_loop R248 and R243): exec of each instruction named here, with any
operands its tags admit, answers the next state with its record emitted and nothing else changed (one step for an
instruction: log entry 3). -/
def Obligations.BitFieldLoopAndCallRowsEmitTheirRecords : Prop := ∀ r ∈ ([
    ⟨.bbs, [0xE0], 0xE0, "BBS", [.long, .byte, .bdisp8]⟩,
    ⟨.bbc, [0xE1], 0xE1, "BBC", [.long, .byte, .bdisp8]⟩,
    ⟨.bbss, [0xE2], 0xE2, "BBSS", [.long, .byte, .bdisp8]⟩,
    ⟨.bbcs, [0xE3], 0xE3, "BBCS", [.long, .byte, .bdisp8]⟩,
    ⟨.bbsc, [0xE4], 0xE4, "BBSC", [.long, .byte, .bdisp8]⟩,
    ⟨.bbcc, [0xE5], 0xE5, "BBCC", [.long, .byte, .bdisp8]⟩,
    ⟨.bbssi, [0xE6], 0xE6, "BBSSI", [.long, .byte, .bdisp8]⟩,
    ⟨.bbcci, [0xE7], 0xE7, "BBCCI", [.long, .byte, .bdisp8]⟩,
    ⟨.blbs, [0xE8], 0xE8, "BLBS", [.long, .bdisp8]⟩,
    ⟨.blbc, [0xE9], 0xE9, "BLBC", [.long, .bdisp8]⟩,
    ⟨.ffs, [0xEA], 0xEA, "FFS", [.long, .byte, .byte, .long]⟩,
    ⟨.ffc, [0xEB], 0xEB, "FFC", [.long, .byte, .byte, .long]⟩,
    ⟨.cmpv, [0xEC], 0xEC, "CMPV", [.long, .byte, .byte, .long]⟩,
    ⟨.cmpzv, [0xED], 0xED, "CMPZV", [.long, .byte, .byte, .long]⟩,
    ⟨.extv, [0xEE], 0xEE, "EXTV", [.long, .byte, .byte, .long]⟩,
    ⟨.extzv, [0xEF], 0xEF, "EXTZV", [.long, .byte, .byte, .long]⟩,
    ⟨.insv, [0xF0], 0xF0, "INSV", [.long, .long, .byte, .byte]⟩,
    ⟨.acbl, [0xF1], 0xF1, "ACBL", [.long, .long, .long, .bdisp16]⟩,
    ⟨.aoblss, [0xF2], 0xF2, "AOBLSS", [.long, .long, .bdisp8]⟩,
    ⟨.aobleq, [0xF3], 0xF3, "AOBLEQ", [.long, .long, .bdisp8]⟩,
    ⟨.sobgeq, [0xF4], 0xF4, "SOBGEQ", [.long, .bdisp8]⟩,
    ⟨.sobgtr, [0xF5], 0xF5, "SOBGTR", [.long, .bdisp8]⟩,
    ⟨.cvtlb, [0xF6], 0xF6, "CVTLB", [.long, .byte]⟩,
    ⟨.cvtlw, [0xF7], 0xF7, "CVTLW", [.long, .word]⟩,
    ⟨.ashp, [0xF8], 0xF8, "ASHP", [.byte, .word, .byte, .byte, .word, .byte]⟩,
    ⟨.cvtlp, [0xF9], 0xF9, "CVTLP", [.long, .word, .byte]⟩,
    ⟨.callg, [0xFA], 0xFA, "CALLG", [.byte, .byte]⟩,
    ⟨.calls, [0xFB], 0xFB, "CALLS", [.long, .byte]⟩,
    ⟨.xfc, [0xFC], 0xFC, "XFC", []⟩] : List WrittenRow), RowCompletes r

/-- The rows of rules R2050 to R2051 and R2152 to R2247 (with 42_decode_loop R248 and R243): exec of each instruction named here, with any
operands its tags admit, answers the next state with its record emitted and nothing else changed (one step for an
instruction: log entry 3). -/
def Obligations.CrossFormatFloatingRowsEmitTheirRecords : Prop := ∀ r ∈ ([
    ⟨.cvtdh, [0xFD, 0x32], 0xFD32, "CVTDH", [.dFloat, .hFloat]⟩,
    ⟨.cvtgf, [0xFD, 0x33], 0xFD33, "CVTGF", [.gFloat, .fFloat]⟩,
    ⟨.cvtfh, [0xFD, 0x98], 0xFD98, "CVTFH", [.fFloat, .hFloat]⟩,
    ⟨.cvtfg, [0xFD, 0x99], 0xFD99, "CVTFG", [.fFloat, .gFloat]⟩,
    ⟨.cvthf, [0xFD, 0xF6], 0xFDF6, "CVTHF", [.hFloat, .fFloat]⟩,
    ⟨.cvthd, [0xFD, 0xF7], 0xFDF7, "CVTHD", [.hFloat, .dFloat]⟩] : List WrittenRow), RowCompletes r

/-- The rows of rules R2064 to R2086 (with 42_decode_loop R248 and R243): exec of each instruction named here, with any
operands its tags admit, answers the next state with its record emitted and nothing else changed (one step for an
instruction: log entry 3). -/
def Obligations.GFloatingRowsEmitTheirRecords : Prop := ∀ r ∈ ([
    ⟨.addg2, [0xFD, 0x40], 0xFD40, "ADDG2", [.gFloat, .gFloat]⟩,
    ⟨.addg3, [0xFD, 0x41], 0xFD41, "ADDG3", [.gFloat, .gFloat, .gFloat]⟩,
    ⟨.subg2, [0xFD, 0x42], 0xFD42, "SUBG2", [.gFloat, .gFloat]⟩,
    ⟨.subg3, [0xFD, 0x43], 0xFD43, "SUBG3", [.gFloat, .gFloat, .gFloat]⟩,
    ⟨.mulg2, [0xFD, 0x44], 0xFD44, "MULG2", [.gFloat, .gFloat]⟩,
    ⟨.mulg3, [0xFD, 0x45], 0xFD45, "MULG3", [.gFloat, .gFloat, .gFloat]⟩,
    ⟨.divg2, [0xFD, 0x46], 0xFD46, "DIVG2", [.gFloat, .gFloat]⟩,
    ⟨.divg3, [0xFD, 0x47], 0xFD47, "DIVG3", [.gFloat, .gFloat, .gFloat]⟩,
    ⟨.cvtgb, [0xFD, 0x48], 0xFD48, "CVTGB", [.gFloat, .byte]⟩,
    ⟨.cvtgw, [0xFD, 0x49], 0xFD49, "CVTGW", [.gFloat, .word]⟩,
    ⟨.cvtgl, [0xFD, 0x4A], 0xFD4A, "CVTGL", [.gFloat, .long]⟩,
    ⟨.cvtrgl, [0xFD, 0x4B], 0xFD4B, "CVTRGL", [.gFloat, .long]⟩,
    ⟨.cvtbg, [0xFD, 0x4C], 0xFD4C, "CVTBG", [.byte, .gFloat]⟩,
    ⟨.cvtwg, [0xFD, 0x4D], 0xFD4D, "CVTWG", [.word, .gFloat]⟩,
    ⟨.cvtlg, [0xFD, 0x4E], 0xFD4E, "CVTLG", [.long, .gFloat]⟩,
    ⟨.acbg, [0xFD, 0x4F], 0xFD4F, "ACBG", [.gFloat, .gFloat, .gFloat, .bdisp16]⟩,
    ⟨.movg, [0xFD, 0x50], 0xFD50, "MOVG", [.gFloat, .gFloat]⟩,
    ⟨.cmpg, [0xFD, 0x51], 0xFD51, "CMPG", [.gFloat, .gFloat]⟩,
    ⟨.mnegg, [0xFD, 0x52], 0xFD52, "MNEGG", [.gFloat, .gFloat]⟩,
    ⟨.tstg, [0xFD, 0x53], 0xFD53, "TSTG", [.gFloat]⟩,
    ⟨.emodg, [0xFD, 0x54], 0xFD54, "EMODG", [.gFloat, .word, .gFloat, .long, .gFloat]⟩,
    ⟨.polyg, [0xFD, 0x55], 0xFD55, "POLYG", [.gFloat, .word, .byte]⟩,
    ⟨.cvtgh, [0xFD, 0x56], 0xFD56, "CVTGH", [.gFloat, .hFloat]⟩] : List WrittenRow), RowCompletes r

/-- The rows of rules R2096 to R2118 (with 42_decode_loop R248 and R243): exec of each instruction named here, with any
operands its tags admit, answers the next state with its record emitted and nothing else changed (one step for an
instruction: log entry 3). -/
def Obligations.HFloatingRowsEmitTheirRecords : Prop := ∀ r ∈ ([
    ⟨.addh2, [0xFD, 0x60], 0xFD60, "ADDH2", [.hFloat, .hFloat]⟩,
    ⟨.addh3, [0xFD, 0x61], 0xFD61, "ADDH3", [.hFloat, .hFloat, .hFloat]⟩,
    ⟨.subh2, [0xFD, 0x62], 0xFD62, "SUBH2", [.hFloat, .hFloat]⟩,
    ⟨.subh3, [0xFD, 0x63], 0xFD63, "SUBH3", [.hFloat, .hFloat, .hFloat]⟩,
    ⟨.mulh2, [0xFD, 0x64], 0xFD64, "MULH2", [.hFloat, .hFloat]⟩,
    ⟨.mulh3, [0xFD, 0x65], 0xFD65, "MULH3", [.hFloat, .hFloat, .hFloat]⟩,
    ⟨.divh2, [0xFD, 0x66], 0xFD66, "DIVH2", [.hFloat, .hFloat]⟩,
    ⟨.divh3, [0xFD, 0x67], 0xFD67, "DIVH3", [.hFloat, .hFloat, .hFloat]⟩,
    ⟨.cvthb, [0xFD, 0x68], 0xFD68, "CVTHB", [.hFloat, .byte]⟩,
    ⟨.cvthw, [0xFD, 0x69], 0xFD69, "CVTHW", [.hFloat, .word]⟩,
    ⟨.cvthl, [0xFD, 0x6A], 0xFD6A, "CVTHL", [.hFloat, .long]⟩,
    ⟨.cvtrhl, [0xFD, 0x6B], 0xFD6B, "CVTRHL", [.hFloat, .long]⟩,
    ⟨.cvtbh, [0xFD, 0x6C], 0xFD6C, "CVTBH", [.byte, .hFloat]⟩,
    ⟨.cvtwh, [0xFD, 0x6D], 0xFD6D, "CVTWH", [.word, .hFloat]⟩,
    ⟨.cvtlh, [0xFD, 0x6E], 0xFD6E, "CVTLH", [.long, .hFloat]⟩,
    ⟨.acbh, [0xFD, 0x6F], 0xFD6F, "ACBH", [.hFloat, .hFloat, .hFloat, .bdisp16]⟩,
    ⟨.movh, [0xFD, 0x70], 0xFD70, "MOVH", [.hFloat, .hFloat]⟩,
    ⟨.cmph, [0xFD, 0x71], 0xFD71, "CMPH", [.hFloat, .hFloat]⟩,
    ⟨.mnegh, [0xFD, 0x72], 0xFD72, "MNEGH", [.hFloat, .hFloat]⟩,
    ⟨.tsth, [0xFD, 0x73], 0xFD73, "TSTH", [.hFloat]⟩,
    ⟨.emodh, [0xFD, 0x74], 0xFD74, "EMODH", [.hFloat, .word, .hFloat, .long, .hFloat]⟩,
    ⟨.polyh, [0xFD, 0x75], 0xFD75, "POLYH", [.hFloat, .word, .byte]⟩,
    ⟨.cvthg, [0xFD, 0x76], 0xFD76, "CVTHG", [.hFloat, .gFloat]⟩] : List WrittenRow), RowCompletes r

/-! ### What every instruction may do, and where it faults -/

/-- 60_exceptions R302 to R305, and "no row raises anything else" of 44, 45 and 46: exec of any instruction in any state
answers a next state: its own record emitted (42_decode_loop R243, R251), with the bytes of MEM from `pc` on and one
operand record for each tag of its row, or a fault taken; the fault is F_OOB, or F_INDEX_CHAIN under a finite limit; no
memory, general register, code-segment size, LOAD_ERR or parameter changes (20_memory R83; 10_state R42). -/
def Obligations.InstructionsOnlyEmitOrTakeOobOrIndexChain : Prop :=
  ∀ (i : Instr) (s : State), ∃ t, exec i s = .next t ∧
    t.mem = s.mem ∧ t.x = s.x ∧ t.csegSize = s.csegSize ∧ t.loadErr = s.loadErr ∧ t.params = s.params ∧
    t.inputs = s.inputs ∧ t.ready = s.ready ∧ t.accepted = s.accepted ∧
    ((t.phase = .emit ∧ t.faultRegs = s.faultRegs ∧ t.freeCount = s.freeCount ∧ t.cp = i.codepoint ∧
      s.pc < t.pc ∧ t.pc ≤ s.params.memSize ∧
      ∃ r, t.out = some r ∧ r.start = s.pc ∧ r.stop = t.pc ∧ r.kind = .known ∧ r.cp = i.codepoint ∧
        r.cw = (encodeOpcode i.codepoint).length ∧ r.mnemonic = some i.mnemonic ∧
        r.ops.map (fun o => o.head.tag) = i.tags ∧ r.bytes.length = t.pc - s.pc ∧
        ∀ j, j < t.pc - s.pc → r.bytes.getD j 0 = s.mem.read (s.pc + j)) ∨
     (t.phase = .fault ∧ t.out = s.out ∧
       (t.faultRegs.cause = .oob ∨ t.faultRegs.cause = .indexChain ∧ s.params.indexChainLimit ≠ none)))

/-- 20_memory R85, 60_exceptions R302 and R306: an instruction whose bytes run past the end of memory after `n` of them
takes F_OOB: FAULT_ADDR and FAULT_SIZE are those of a read that crosses the end, FAULT_START is its start, CPV says that
the opcode field was read whole; nothing is emitted. -/
def Obligations.InstructionCutOffByEndOfMemoryTakesOob : Prop :=
  ∀ (x : AsmInstr) (s : State) (n : Nat), x.wellFormed = true →
    x.withinChainLimit s.params.indexChainLimit = true → n < (encode x).length → s.params.memSize = s.pc + n →
    (∀ j, j < n → s.mem.read (s.pc + j) = (encode x).getD j 0) → s.params.memSize < 2 ^ 32 →
    ∃ t, exec x.instr s = .next t ∧ t.phase = .fault ∧ t.faultRegs.cause = .oob ∧
      s.pc ≤ t.faultRegs.addr.toNat ∧ t.faultRegs.addr.toNat ≤ s.params.memSize ∧
      s.params.memSize < t.faultRegs.addr.toNat + t.faultRegs.size.toNat ∧
      t.faultRegs.start.toNat = s.pc ∧ t.faultRegs.tag = 0 ∧
      (if (encodeOpcode x.instr.codepoint).length ≤ n then
        t.faultRegs.cpv = true ∧ t.faultRegs.cp = x.instr.codepoint
      else t.faultRegs.cpv = false ∧ t.faultRegs.cp = 0) ∧
      t.mem = s.mem ∧ t.accepted = s.accepted ∧ t.out = s.out

/-- 41_operand_modes R194 and R195, 60_exceptions R304: with a finite limit `l`, an instruction whose operand `o` has more
than `l` index bytes takes F_INDEX_CHAIN at the address of the (l+1)-th of them; the operands before it keep the limit. -/
def Obligations.IndexChainPastTheLimitTakesItsFault : Prop :=
  ∀ (i : Instr) (pre : List Operand) (o : Operand) (post : List Operand) (s : State) (l : Nat),
    (⟨i, pre ++ o :: post⟩ : AsmInstr).wellFormed = true → s.params.indexChainLimit = some l →
    pre.all (fun q => chainAllowed (some l) q.indexBytes) = true → l < o.indexBytes →
    Holds s.source s.pc (encode ⟨i, pre ++ o :: post⟩) → s.params.memSize ≤ 2 ^ 32 →
    ∃ t, exec i s = .next t ∧ t.phase = .fault ∧ t.faultRegs.cause = .indexChain ∧
      t.faultRegs.addr.toNat = s.pc + (encodeOpcode i.codepoint).length + (pre.flatMap encodeOperand).length + l ∧
      t.faultRegs.size = 1 ∧ t.faultRegs.start.toNat = s.pc ∧ t.faultRegs.cp = i.codepoint ∧
      t.faultRegs.cpv = true ∧ t.faultRegs.tag = 0 ∧ t.mem = s.mem ∧ t.accepted = s.accepted ∧ t.out = s.out

/-! ### Operands by mode class -/

/-- 41_operand_modes R193, R196 to R199 and R201: the classes with no byte after the mode byte, for every general tag. -/
def Obligations.OneByteModesMakeTheirRecords : Prop :=
  ∀ (limit : Option Nat) (src : Source) (t : Tag) (a : Nat), t.isGeneral = true → a < src.size →
    let m := (src.byte a).toNat
    let r := BitVec.ofNat 4 (m % 16)
    let h : OperandHead := ⟨t, a, a + 1, t.width⟩
    let result := resolveOperand limit src t.code a
    (m ≤ 0x3F → result = .ok (.shortLiteral h (BitVec.ofNat 6 m), a + 1)) ∧
    (0x50 ≤ m ∧ m ≤ 0x5F → result = .ok (.register h r, a + 1)) ∧
    (0x60 ≤ m ∧ m ≤ 0x6F → result = .ok (.registerDeferred h r, a + 1)) ∧
    (0x70 ≤ m ∧ m ≤ 0x7F → result = .ok (.autodecrement h r, a + 1)) ∧
    (0x80 ≤ m ∧ m ≤ 0x8E → result = .ok (.autoincrement h r, a + 1)) ∧
    (0x90 ≤ m ∧ m ≤ 0x9E → result = .ok (.autoincrementDeferred h r, a + 1))

/-- 41_operand_modes R200 and R202: an immediate has the width of its tag, an absolute address 4 bytes; a literal that
does not fit below the end of memory faults at its own address, checked as one read. -/
def Obligations.ImmediateAndAbsoluteModesMakeTheirRecords : Prop :=
  ∀ (limit : Option Nat) (src : Source) (t : Tag) (a : Nat), t.isGeneral = true → a < src.size →
    let result := resolveOperand limit src t.code a
    (src.byte a = 0x8F →
      (a + 1 + t.width ≤ src.size →
        result = .ok (.immediate ⟨t, a, a + 1 + t.width, t.width⟩ (src.le t.width (a + 1)) t.width,
          a + 1 + t.width)) ∧
      (src.size < a + 1 + t.width → result = .error (.oob (a + 1) t.width))) ∧
    (src.byte a = 0x9F →
      (a + 5 ≤ src.size →
        result = .ok (.absolute ⟨t, a, a + 5, t.width⟩ (BitVec.ofNat 32 (src.le 4 (a + 1))), a + 5)) ∧
      (src.size < a + 5 → result = .error (.oob (a + 1) 4)))

/-- 41_operand_modes R203 to R208: the displacement classes, each displacement sign-extended to 32 bits. -/
def Obligations.DisplacementModesMakeTheirRecords : Prop :=
  ∀ (limit : Option Nat) (src : Source) (t : Tag) (a : Nat), t.isGeneral = true → a < src.size →
    ∀ mode ∈ dispModes, (src.byte a).toNat / 16 = mode.1 → (src.byte a).toNat % 16 ≠ 15 →
      let w := mode.2.1
      (a + 1 + w ≤ src.size →
        resolveOperand limit src t.code a =
          .ok (.displacement ⟨t, a, a + 1 + w, t.width⟩ (BitVec.ofNat 4 ((src.byte a).toNat % 16)) w
            (sextWord (8 * w) (src.le w (a + 1))) mode.2.2, a + 1 + w)) ∧
      (src.size < a + 1 + w → resolveOperand limit src t.code a = .error (.oob (a + 1) w))

/-- 41_operand_modes R209 and R210: register 15 in a displacement class is PC_RELATIVE; its target is the address after
the operand plus the displacement, modulo 2^32. -/
def Obligations.PcRelativeModesComputeTheirTarget : Prop :=
  ∀ (limit : Option Nat) (src : Source) (t : Tag) (a : Nat), t.isGeneral = true → a < src.size →
    ∀ mode ∈ dispModes, (src.byte a).toNat / 16 = mode.1 → (src.byte a).toNat % 16 = 15 →
      let w := mode.2.1
      let d := sextWord (8 * w) (src.le w (a + 1))
      (a + 1 + w ≤ src.size →
        resolveOperand limit src t.code a =
          .ok (.pcRelative ⟨t, a, a + 1 + w, t.width⟩ w d mode.2.2 (BitVec.ofNat 32 (a + 1 + w + d.toNat)),
            a + 1 + w)) ∧
      (src.size < a + 1 + w → resolveOperand limit src t.code a = .error (.oob (a + 1) w))

/-- 41_operand_modes R194 and R195 with INDEX_CHAIN_LIMIT unbounded: an index byte is followed by a whole base specifier
of the same tag, of any class, an index chain included; a fault of the base is the operand's. -/
def Obligations.IndexedModeWrapsItsBase : Prop :=
  ∀ (src : Source) (t : Tag) (a : Nat), t.isGeneral = true → a < src.size → (src.byte a).toNat / 16 = 4 →
    resolveOperand none src t.code a =
      match resolveOperand none src t.code (a + 1) with
      | .error f => .error f
      | .ok (base, q) =>
        .ok (.indexed ⟨t, a, q, t.width⟩ (BitVec.ofNat 4 ((src.byte a).toNat % 16)) base, q)

/-- 41_operand_modes R211 and R212: a branch displacement has no mode byte; its target is the address after it plus the
extended displacement, modulo 2^32. -/
def Obligations.BranchDisplacementsComputeTheirTarget : Prop :=
  ∀ (limit : Option Nat) (src : Source) (a : Nat),
    ∀ tw ∈ [(Tag.bdisp8, 1), (Tag.bdisp16, 2)],
      let d := sextWord (8 * tw.2) (src.le tw.2 a)
      (a + tw.2 ≤ src.size →
        resolveOperand limit src tw.1.code a =
          .ok (.branch ⟨tw.1, a, a + tw.2, tw.2⟩ tw.2 d (BitVec.ofNat 32 (a + tw.2 + d.toNat)), a + tw.2)) ∧
      (src.size < a + tw.2 → resolveOperand limit src tw.1.code a = .error (.oob a tw.2))

/-- 41_operand_modes R190 and R192, 60_exceptions R303: a general operand at the end of memory faults on its mode byte;
an invalid tag code faults where it is reached and reads nothing. -/
def Obligations.ModeByteAndTagCodeFaults : Prop :=
  (∀ (limit : Option Nat) (src : Source) (t : Tag) (a : Nat), t.isGeneral = true → src.size ≤ a →
    resolveOperand limit src t.code a = .error (.oob a 1)) ∧
  (∀ (limit : Option Nat) (src : Source) (c : BitVec 4) (a : Nat), 11 ≤ c.toNat →
    resolveOperand limit src c a = .error (.badTag a c))

/-- 10_state R53: the codes, classes and widths of the operand-type tags; the codes 11 to 15 are invalid. -/
def Obligations.TagCodesClassesAndWidths : Prop :=
  (∀ e ∈ ([(0, .byte, true, false, 1), (1, .word, true, false, 2), (2, .long, true, false, 4),
      (3, .quad, true, false, 8), (4, .octa, true, false, 16), (5, .fFloat, true, true, 4),
      (6, .dFloat, true, true, 8), (7, .gFloat, true, true, 8), (8, .hFloat, true, true, 16),
      (9, .bdisp8, false, false, 1), (10, .bdisp16, false, false, 2)] : List (BitVec 4 × Tag × Bool × Bool × Nat)),
    Tag.ofCode e.1 = some e.2.1 ∧ e.2.1.code = e.1 ∧ e.2.1.isGeneral = e.2.2.1 ∧
    (floatSuffix e.2.1 ≠ []) = (e.2.2.2.1 = true) ∧ e.2.1.width = e.2.2.2.2) ∧
  (∀ c : BitVec 4, 11 ≤ c.toNat → Tag.ofCode c = none)

/-! ### Encoding -/

/-- 30_encoding R120 to R130: decoding the bytes of a well-formed instruction gives it back, with every operand at every
value, wherever the bytes stand whole in memory (the default OPTABLE and ESCAPE_BYTE; index chains within the limit). -/
def Obligations.DecodeGivesBackEveryEncodedInstruction : Prop :=
  ∀ (P : Params) (src : Source) (a : Nat) (x : AsmInstr), P.escapeByte = 0xFD → P.optablePatch = [] →
    x.wellFormed = true → x.withinChainLimit P.indexChainLimit = true → Holds src a (encode x) →
    decodeInstr P src a = .ok (.known x, a + (encode x).length)

/-- 30_encoding R120 to R130, the other way: what is decoded as an instruction is well-formed, and its encoding is the
bytes read, all of them and no others (42_decode_loop R253). -/
def Obligations.EncodeGivesBackTheDecodedBytes : Prop :=
  ∀ (P : Params) (src : Source) (a q : Nat) (x : AsmInstr), decodeInstr P src a = .ok (.known x, q) →
    x.wellFormed = true ∧ q = a + (encode x).length ∧ Holds src a (encode x)

/-- 30_encoding R124: the bytes each class of general specifier occupies. -/
def Obligations.SpecifierLengthsByClass : Prop :=
  (∀ (t : Tag) (sp : Specifier), (encodeSpecifier t sp).length = specifierLength t.width sp ∧
    1 ≤ (encodeSpecifier t sp).length) ∧
  (∀ (t : Tag) (n : Nat), ∃ sp : Specifier, sp.wellFormed t = true ∧ n < (encodeSpecifier t sp).length)

/-- 30_encoding R131, the second sentence: every instruction followed by zero bytes decodes as itself with a length of
its opcode width, one byte for each general operand and the width of each branch displacement. -/
def Obligations.ZeroOperandBytesGiveTheMinimumLength : Prop :=
  ∀ (P : Params) (src : Source) (a : Nat) (i : Instr), P.escapeByte = 0xFD → P.optablePatch = [] →
    let n := (i.tags.map (fun t => if t = .bdisp16 then 2 else 1)).sum
    Holds src a (encodeOpcode i.codepoint ++ List.replicate n 0) →
    ∃ x, decodeInstr P src a = .ok (.known x, a + (encodeOpcode i.codepoint).length + n) ∧ x.instr = i

/-- 40_opcode_fetch R171, R172, R177 and R178, 20_memory R89: the opcode field is one byte other than ESCAPE_BYTE, or
ESCAPE_BYTE and any second byte with the escape byte high in the codepoint. -/
def Obligations.OpcodeFieldIsOneByteOrEscapeAndOne : Prop :=
  ∀ (e : Byte) (src : Source) (a : Nat),
    (a + 1 ≤ src.size → src.byte a ≠ e →
      fetchOpcode e src a = .ok (BitVec.ofNat 16 (src.byte a).toNat, 1, a + 1)) ∧
    (a + 2 ≤ src.size → src.byte a = e →
      fetchOpcode e src a = .ok (BitVec.ofNat 16 (e.toNat * 256 + (src.byte (a + 1)).toNat), 2, a + 2)) ∧
    (src.size ≤ a → fetchOpcode e src a = .error (.oob a 1)) ∧
    (src.size = a + 1 → src.byte a = e → fetchOpcode e src a = .error (.oob (a + 1) 1))

/-- Rules R1000, R1017, R1143, R1208, R1252 and R2125, 40_opcode_fetch R175 and R178: a few opcode bytes written out from
the table decode to their rows; codepoints with no row decode to none. A sanity statement. -/
def Obligations.WrittenOpcodesDecodeToTheirRows : Prop :=
  decodeTableWord 8 0x00 = some .halt ∧ decodeTableWord 8 0x11 = some .brb ∧ decodeTableWord 8 0x8F = some .caseb ∧
  decodeTableWord 8 0xD0 = some .movl ∧ decodeTableWord 8 0xFC = some .xfc ∧
  decodeTableWord 16 0xFD7D = some .movo ∧ decodeTableWord 8 0x57 = none ∧ decodeTableWord 8 0xFE = none ∧
  decodeTableWord 16 0xFD00 = none

/-- 20_memory R84 and R85: a read is the little-endian sum of its bytes, checked as a whole against the end of memory. -/
def Obligations.FetchReadsLittleEndianWithinMemory : Prop :=
  ∀ (src : Source) (n a : Nat),
    (a + n ≤ src.size →
      src.fetch n a = .ok (∑ j ∈ Finset.range n, (src.byte (a + j)).toNat * 2 ^ (8 * j), a + n)) ∧
    (src.size < a + n → src.fetch n a = .error (.oob a n))

/-! ### The decode loop -/

/-- 42_decode_loop R248 as the step runs it: where the bytes at `pc` decode to an instruction of the default table, the
step is exec of that instruction at that state (one step per instruction: log entry 3, 10_state R56). -/
def Obligations.StepRunsTheDecodedInstruction : Prop :=
  ∀ (s : State), s.inputs = [] → s.phase = .fetchOpcode → s.pc < s.csegSize.toNat →
    (∀ i p, decodeOpcode s.params s.source s.pc = .ok (.known i, p) → step s = exec i s) ∧
    (∀ x q, decodeInstr s.params s.source s.pc = .ok (.known x, q) → step s = exec x.instr s)

/-- 42_decode_loop R241: the termination test, unsigned, before any fetch; the only place a run ends without a fault.
That DONE keeps `pc` and the control state, which the spec lets hold any value then (93 I8), is the model's (log
entry 7). -/
def Obligations.TerminationTestIsTheOnlyWayToDone : Prop :=
  (∀ s : State, s.inputs = [] → s.phase = .fetchOpcode → s.csegSize.toNat ≤ s.pc →
    step s = .next { s with phase := .done } ∧
    ({ s with phase := .done } : State).hostRead .status &&& 3 = 2) ∧
  (∀ s : State, s.inputs = [] → s.phase = .fetchOpcode → s.pc < s.csegSize.toNat → step s = s.fetchAndRun) ∧
  (∀ s t : State, s.phase.running = true → step s = .next t → t.phase = .done →
    s.phase = .fetchOpcode ∧ s.csegSize.toNat ≤ s.pc) ∧
  (∀ s t : State, s.inputs = [] → s.phase = .fetchOpcode → s.csegSize = 0 → step s = .next t →
    t.phase = .done ∧ t.out = s.out ∧ t.accepted = s.accepted)

/-- 40_opcode_fetch R175 and R176: a codepoint with no descriptor emits an UNKNOWN record of its opcode field alone and
decoding goes on at the next byte. -/
def Obligations.UnknownCodepointEmitsItsOpcodeFieldAlone : Prop :=
  ∀ (s : State) (cp : Codepoint) (cw q : Nat), s.inputs = [] → s.phase = .fetchOpcode → s.pc < s.csegSize.toNat →
    fetchOpcode s.params.escapeByte s.source s.pc = .ok (cp, cw, q) → s.params.optable cp = none →
    q = s.pc + cw ∧ (cw = 1 ∨ cw = 2) ∧
    step s = .next { s with
      pc := s.pc + cw, phase := .emit, start := s.pc, cp := cp, cw := cw, desc := none, k := 0, ops := [],
      out := some { start := s.pc, stop := s.pc + cw, bytes := s.mem.slice s.pc cw, kind := .unknown, cp := cp,
                    cw := cw, mnemonic := none, ops := [] } }

/-- 40_opcode_fetch R171, R172 and R179, 60_exceptions R301 and R306: a fault of the opcode fetch itself. -/
def Obligations.OpcodeFetchPastMemoryTakesOob : Prop :=
  ∀ (s : State) (addr : Nat), s.inputs = [] → s.phase = .fetchOpcode → s.pc < s.csegSize.toNat →
    (s.params.memSize ≤ s.pc ∧ addr = s.pc ∨
      s.params.memSize = s.pc + 1 ∧ s.mem.read s.pc = s.params.escapeByte ∧ addr = s.pc + 1) →
    ∃ t, step s = .next t ∧ t.phase = .fault ∧ t.out = s.out ∧ t.accepted = s.accepted ∧
      t.faultRegs.cause = .oob ∧ t.faultRegs.size = 1 ∧ t.faultRegs.start.toNat = s.pc ∧
      (addr < 2 ^ 32 → t.faultRegs.addr.toNat = addr) ∧
      t.faultRegs.cp = 0 ∧ t.faultRegs.cpv = false ∧ t.faultRegs.tag = 0

/-- 10_state R54, 60_exceptions R303: a row of another OPTABLE with an invalid tag code takes F_BAD_TAG at the address
where the code is reached, after the operands before it. -/
def Obligations.MalformedDescriptorTakesBadTag : Prop :=
  ∀ (s : State) (cp : Codepoint) (cw p q : Nat) (m : String) (pre post : List (BitVec 4)) (c : BitVec 4)
    (ops : List Operand), s.inputs = [] → s.phase = .fetchOpcode → s.pc < s.csegSize.toNat →
    decodeOpcode s.params s.source s.pc = .ok (.otherRow cp cw ⟨m, pre ++ c :: post⟩, p) →
    decodeOperands s.params.indexChainLimit s.source pre p = .ok (ops, q) → 11 ≤ c.toNat →
    ∃ t, step s = .next t ∧ t.phase = .fault ∧ t.out = s.out ∧ t.accepted = s.accepted ∧
      t.faultRegs.cause = .badTag ∧ (q < 2 ^ 32 → t.faultRegs.addr.toNat = q) ∧ t.faultRegs.size = 0 ∧
      t.faultRegs.start.toNat = s.pc ∧ t.faultRegs.cp = cp ∧ t.faultRegs.cpv = true ∧ t.faultRegs.tag = c

/-- 42_decode_loop R248: a step of the machine in FETCH_OPCODE below the code segment's end is `DecodeInstruction` of MEM
at `pc`: its record emitted, or its fault taken; whatever OPTABLE is (one step for an instruction: log
entry 3). That a fault empties the control state is the model's reading of "discards" (`takeFault`, log entry 6). -/
def Obligations.StepIsDecodeInstruction : Prop :=
  ∀ s : State, s.inputs = [] → s.phase = .fetchOpcode → s.pc < s.csegSize.toNat →
    step s = .next
      (match decodeInstruction s.params s.mem s.pc with
      | .ok r =>
        { s with
          pc := r.stop, phase := .emit, start := s.pc, cp := r.cp, cw := r.cw, desc := s.params.optable r.cp,
          k := r.ops.length, ops := r.ops, out := some r }
      | .error f => s.takeFault s.pc f)

/-- 42_decode_loop R252: a record's operands follow one another from the opcode field to its end, with no gap. -/
def Obligations.RecordsAreContiguous : Prop :=
  ∀ (P : Params) (mem : Memory) (p : Nat) (r : Record), decodeInstruction P mem p = .ok r →
    r.start = p ∧ r.stop = r.start + r.cw + (r.ops.map (fun o => o.head.stop - o.head.start)).sum ∧
    OpsContiguous (r.start + r.cw) r.ops r.stop

/-- 42_decode_loop R253 and R251: a record's bytes are the bytes of MEM from its start to its end, each once, at least one,
all below the end of memory. -/
def Obligations.RecordBytesAreTheBytesFetched : Prop :=
  ∀ (P : Params) (mem : Memory) (p : Nat) (r : Record), decodeInstruction P mem p = .ok r →
    p < r.stop ∧ r.stop ≤ P.memSize ∧ r.bytes.length = r.stop - p ∧
    ∀ j, j < r.stop - p → r.bytes.getD j 0 = mem.read (p + j)

/-- 42_decode_loop R249 and R240: a START, with a consumer that accepts, runs the machine to the observation of `Run`: the
same records accepted in the same order, DONE or the same fault; MEM, CSEG_SIZE and OPTABLE are left as found (R250). The
outcome, the fault registers included, is a function of MEM, CSEG_SIZE and the parameters alone, as R250 requires; so is
the free value of FAULT_ADDR at 2^32 (log entry 5). The consumer's line and the log of accepted records are the model's
(log entries 8, 9, 10), and the bound counts the model's own steps, one for an instruction and one for the hand-over of
its record (log entry 3). -/
def Obligations.MachineRunIsTheRunFunction : Prop :=
  ∀ s : State, s.phase.running = false → s.ready = true → s.inputs = [.write .control 1] →
    ∃ n t, n ≤ 2 * min s.csegSize.toNat s.params.memSize + 2 ∧ stepN n s = .next t ∧
      t.accepted = (run s.params s.mem s.csegSize.toNat).1 ∧
      t.mem = s.mem ∧ t.csegSize = s.csegSize ∧ t.params = s.params ∧
      (match (run s.params s.mem s.csegSize.toNat).2 with
      | .done => t.phase = .done ∧ t.faultRegs = FaultRegs.clear
      | .fault start f => t.phase = .fault ∧
          t.faultRegs = faultRegsOf (Config.freeFaultAddr s.params.memSize s.params.escapeByte
          s.params.indexChainLimit s.params.optable s.mem.read s.csegSize) start f
      | .unfinished => False)

/-- 42_decode_loop R249, 70 R347: a run ends, in DONE or FAULT, after at most min(CSEG_SIZE, MEM_SIZE) records. -/
def Obligations.EveryRunEnds : Prop :=
  ∀ (P : Params) (mem : Memory) (cseg : Nat),
    (run P mem cseg).2 ≠ .unfinished ∧ (run P mem cseg).1.length ≤ min cseg P.memSize

/-- 10_state R56, 42_decode_loop R242: decoding the operands one a step in DECODE_OPERANDS, from the state the opcode
fetch leaves, ends in the state that the one-step instruction answers. The phase's own steps are log entry 13, the one
step log entry 3, and the control state that a fault leaves, in both, log entry 6. -/
def Obligations.OperandStepsReachTheOneStepInstruction : Prop :=
  ∀ (s : State) (cp : Codepoint) (cw p : Nat) (d : Descriptor), s.inputs = [] →
    checkOpcode s.params.memSize s.pc cw = .ok p →
    stepN (d.tags.length + 1)
      ({ s with phase := .decodeOperands, pc := p, start := s.pc, cp := cp, cw := cw, desc := some d, k := 0,
                ops := [] } : State) = .next (s.runRow cp cw d)

/-- 42_decode_loop R254 and R243, 10_state R57: in EMIT the engine holds the record, and fetches nothing, until the
consumer accepts it; then FETCH_OPCODE at the same `pc`. No host action but reset takes the record away. How the consumer
shows that it accepts, and the log of what it accepted, are the model's (log entries 9 and 10), and so is that the control
state stays as it is when it accepts (log entry 18). -/
def Obligations.EmitHoldsTheRecordUntilAccepted : Prop :=
  ∀ (s : State) (r : Record), s.phase = .emit → s.out = some r →
    (s.inputs = [] → s.ready = false → step s = .next s) ∧
    (s.inputs = [] → s.ready = true →
      step s = .next { s with out := none, phase := .fetchOpcode, accepted := s.accepted ++ [r] }) ∧
    (∀ (e : Input) (rest : List Input) (t : State), e ≠ .engine → e ≠ .reset → s.inputs = e :: rest →
      step s = .next t → t.phase = .emit ∧ t.out = some r ∧ t.pc = s.pc ∧ t.mem = s.mem)

/-- 70 R341, 60_exceptions R308, 42_decode_loop R241: in IDLE, DONE and FAULT the engine does nothing by itself. -/
def Obligations.IdleDoneAndFaultWaitForTheHost : Prop :=
  ∀ s : State, s.inputs = [] → (s.phase = .idle ∨ s.phase = .done ∨ s.phase = .fault) → step s = .next s

/-- 20_memory R83, 70 R343: no step of the engine writes MEM, and while RUNNING no host action but reset changes MEM,
CSEG_SIZE or a parameter. -/
def Obligations.MemoryIsConstantDuringARun : Prop :=
  (∀ s t : State, s.inputs = [] → step s = .next t →
    t.mem = s.mem ∧ t.csegSize = s.csegSize ∧ t.x = s.x ∧ t.loadErr = s.loadErr ∧ t.params = s.params) ∧
  (∀ (s t : State) (e : Input) (rest : List Input), s.phase.running = true → s.inputs = e :: rest → e ≠ .reset →
    step s = .next t → t.mem = s.mem ∧ t.csegSize = s.csegSize ∧ t.params = s.params)

/-- 10_state R45 to R48: a step of the engine that does not fault never moves `pc` back, moves it past at least one byte
when it emits an instruction, and never past the end of memory. -/
def Obligations.PcOnlyAdvances : Prop :=
  ∀ s t : State, s.inputs = [] → step s = .next t → t.phase ≠ .fault →
    s.pc ≤ t.pc ∧ (t.pc ≠ s.pc → t.pc ≤ s.params.memSize) ∧
    (s.phase = .fetchOpcode → t.phase = .emit → s.pc < t.pc)

/-- 10_state R42 and 41_operand_modes R217: the engine's step does not depend on x[0] to x[14], nor on LOAD_ERR, and hands
them on. -/
def Obligations.GeneralRegistersHaveNoInfluence : Prop :=
  ∀ (s t : State) (y : Vector (BitVec 32) 15) (b : Bool), s.inputs = [] → step s = .next t →
    step { s with x := y, loadErr := b } = .next { t with x := y, loadErr := b }

/-! ### Faults, reset and the host -/

/-- 60_exceptions R301, R306 and R307, 42_decode_loop R247: a step that ends in FAULT records the fault of the instruction
in progress, places no record, and leaves every accepted record, MEM and CSEG_SIZE. -/
def Obligations.FaultEntryIsPrecise : Prop :=
  ∀ s t : State, s.Inv → s.inputs = [] → s.phase ≠ .fault → step s = .next t → t.phase = .fault →
    t.out = none ∧ t.accepted = s.accepted ∧ t.mem = s.mem ∧ t.csegSize = s.csegSize ∧ t.params = s.params ∧
    t.faultRegs.cause ≠ .none ∧ t.faultRegs.Legal ∧ t.faultRegs.start.toNat = s.pc ∧ t.hostRead .status &&& 3 = 3

/-- 10_state R59, 70 R340: reset, in any state, gives every piece of the block's state its reset value and leaves OPTABLE;
`State.reset` has these values too. -/
def Obligations.ResetGivesTheResetValues : Prop :=
  ∀ s t : State, (t = s.hostReset ∨ t = State.reset ∧ s = State.reset) →
    (∀ a, t.mem.read a = 0) ∧ (∀ j : Fin 15, t.x[j] = 0) ∧ t.pc = 0 ∧ t.csegSize = 0 ∧
    (∀ reg, t.hostRead reg = 0) ∧ t.faultRegs = FaultRegs.clear ∧ t.loadErr = false ∧ t.phase = .idle ∧
    t.start = 0 ∧ t.cp = 0 ∧ t.cw = 1 ∧ t.desc = none ∧ t.k = 0 ∧ t.ops = [] ∧ t.out = none ∧
    (∀ cp, t.params.optable cp = s.params.optable cp)

/-- 42_decode_loop R240: a write of 1 to CONTROL.START starts a run from address 0 when the engine is not RUNNING, and has
no effect when it is; LOAD_ERR, MEM and CSEG_SIZE are not changed. -/
def Obligations.StartBeginsARunAtAddressZero : Prop :=
  ∀ (s : State) (v : BitVec 32), v.getLsbD 0 = true →
    (s.phase.running = true → s.hostWrite .control v = s) ∧
    (s.phase.running = false →
      let t := s.hostWrite .control v
      t.pc = 0 ∧ t.faultRegs.cause = .none ∧ t.hostRead .faultAddr = 0 ∧ t.hostRead .faultSize = 0 ∧
      t.hostRead .faultStart = 0 ∧ t.hostRead .faultInfo = 0 ∧ t.out = none ∧ t.phase = .fetchOpcode ∧
      t.hostRead .status &&& 3 = 1 ∧
      t.loadErr = s.loadErr ∧ t.mem = s.mem ∧ t.csegSize = s.csegSize ∧ t.params = s.params ∧ t.x = s.x)

/-- 20_memory R82, 60_exceptions R309: a load is taken whole, or rejected whole with LOAD_ERR and nothing else changed. -/
def Obligations.LoadIsTakenWholeOrRejectedWhole : Prop :=
  ∀ (s : State) (offset : Nat) (bytes : List Byte), s.mem.wf = true →
    if s.phase.running = true ∨ s.params.memSize < offset + bytes.length then
      s.load offset bytes = { s with loadErr := true }
    else
      s.load offset bytes = { s with mem := (s.load offset bytes).mem, loadErr := false } ∧
      ∀ a, (s.load offset bytes).mem.read a =
        if offset ≤ a ∧ a < offset + bytes.length then bytes.getD (a - offset) 0 else s.mem.read a

/-- 10_state R50 and R55, 60_exceptions R301: the register numbers 0 to 6; the reads: STATE, CAUSE and LOAD_ERR as their
numbers at their bits of STATUS, the fields of FAULT_INFO at theirs, every other bit 0, CONTROL reads 0. -/
def Obligations.HostReadsTheRegisterMap : Prop :=
  [HostReg.csegSize, .control, .status, .faultAddr, .faultSize, .faultStart, .faultInfo].map HostReg.number =
    [0, 1, 2, 3, 4, 5, 6] ∧
  ∀ s : State,
    (s.hostRead .status).toNat =
      (match s.phase with
        | .idle => 0 | .fetchOpcode => 1 | .decodeOperands => 1 | .emit => 1 | .done => 2 | .fault => 3) +
      16 * (match s.faultRegs.cause with | .none => 0 | .oob => 1 | .badTag => 2 | .indexChain => 3 | .badMode => 4) +
      256 * (if s.loadErr = true then 1 else 0) ∧
    (s.hostRead .faultInfo).toNat =
      s.faultRegs.cp.toNat + 2 ^ 16 * (if s.faultRegs.cpv = true then 1 else 0) + 2 ^ 20 * s.faultRegs.tag.toNat ∧
    s.hostRead .csegSize = s.csegSize ∧ s.hostRead .control = 0 ∧ s.hostRead .faultAddr = s.faultRegs.addr ∧
    (s.hostRead .faultSize).toNat = s.faultRegs.size.toNat ∧ s.hostRead .faultStart = s.faultRegs.start

/-- 10_state R50, the writes: read-only registers ignore them, CSEG_SIZE takes one except while RUNNING, CONTROL without
START does nothing. -/
def Obligations.HostWritesTheRegisterMap : Prop :=
  ∀ (s : State) (v : BitVec 32),
    (∀ reg, reg ≠ .csegSize → reg ≠ .control → s.hostWrite reg v = s) ∧
    (s.phase.running = true → s.hostWrite .csegSize v = s) ∧
    (s.phase.running = false → s.hostWrite .csegSize v = { s with csegSize := v }) ∧
    (v.getLsbD 0 = false → s.hostWrite .control v = s)

/-- 20_memory R100, 70 R342: the transactions of an image, served when the engine is not RUNNING, put its bytes from offset
0x20 at address 0, its bytes [4,8) in CSEG_SIZE, and start the run. -/
def Obligations.ImageTransactionsBootTheRun : Prop :=
  ∀ (s : State) (image : List Byte), s.phase.running = false → s.mem.wf = true → 8 ≤ image.length →
    image.length - 0x20 ≤ s.params.memSize →
    let t := (imageInputs image).foldl State.serve s
    t.phase = .fetchOpcode ∧ t.pc = 0 ∧ t.loadErr = false ∧
    t.csegSize.toNat = (image.getD 4 0).toNat + 2 ^ 8 * (image.getD 5 0).toNat + 2 ^ 16 * (image.getD 6 0).toNat +
      2 ^ 24 * (image.getD 7 0).toNat ∧
    ∀ a, t.mem.read a = if a < image.length - 0x20 then image.getD (0x20 + a) 0 else s.mem.read a

/-! ### The invariant of every step, and safety -/

/-- The invariant (10_state R42, R48, R50; 20_memory R80; 42_decode_loop R246) holds after reset of a block with legal
parameters, `State.reset` among them. -/
def Obligations.ResetHasTheInvariant : Prop :=
  (∀ P : Params, P.Valid → (State.initial P).Inv) ∧ State.reset.Inv

/-- Every step keeps the invariant, whatever the host and the consumer do (10_state R42, R48, R50; 20_memory R80, R82;
42_decode_loop R240, R246, R254; 60_exceptions R306). -/
def Obligations.EveryStepKeepsTheInvariant : Prop :=
  ∀ s t : State, s.Inv → step s = .next t → t.Inv

/-- 60_exceptions R300, 70 R344: the machine never stops, with no refusal and no fault of its own: every state of the
invariant has a next state, which has the invariant too; so every run from reset goes on, with legal parameters and
whatever the host and the consumer do. -/
def Obligations.NoRunFromResetEverStops : Prop :=
  (∀ s : State, s.Inv → ∃ t, step s = .next t ∧ t.Inv) ∧
  (∀ (P : Params) (ins : List Input) (n : Nat), P.Valid →
    ∃ t, stepN n ({ State.initial P with inputs := ins } : State) = .next t ∧ t.Inv)

/-! ### The listing view -/

/-- 43_listing R288 to R293: one line for each row of four bytes; each is its row's address in 8 hexadecimal digits, a
separator and the row's bytes in two digits each, one space between; the text stands on row 0 alone, always in the same
column; the listing of a run is the lines of its records in order, each ended by one line feed. The digits of the
address, the separator and the column are the default spellings of RENDER (log entry 16). -/
def Obligations.ListingRowsAndTextColumn : Prop :=
  let digits : Nat → Nat → List Char := fun k v =>
    List.replicate (k - (Nat.toDigits 16 v).length) '0' ++ Nat.toDigits 16 v
  let columns : Record → Nat → List Char := fun r j =>
    List.intercalate [' '] (((r.bytes.drop (4 * j)).take 4).map (fun b => digits 2 b.toNat))
  (∀ a, (rowPrefix a).length = 10 ∧ (a < 2 ^ 32 → rowPrefix a = digits 8 a ++ [':', ' '])) ∧
  (∀ r : Record, r.bytes ≠ [] →
    (listingLines r).length = (r.bytes.length + 3) / 4 ∧
    (columns r 0).length ≤ 11 ∧
    (listingLines r)[0]? = some (rowPrefix r.start ++ columns r 0 ++ List.replicate (11 - (columns r 0).length) ' ' ++
      [' ', ' '] ++ renderInstr r) ∧
    (listingLines r)[0]?.map (List.drop 23) = some (renderInstr r) ∧
    (∀ j, 0 < j → j < (r.bytes.length + 3) / 4 →
      (listingLines r)[j]? = some (rowPrefix (r.start + 4 * j) ++ columns r j) ∧ (columns r j).length ≤ 11)) ∧
  (∀ r : Record, (listing r).map String.toList = listingLines r) ∧
  (∀ rs : List Record, (listingOfRun rs).toList = rs.flatMap (fun r => (listingLines r).flatMap (· ++ ['\n'])))

/-- 43_listing R286 and R287: an UNKNOWN record is a data word of its codepoint, 2 digits for each opcode byte; a KNOWN
one is its mnemonic in lower case, then a space and the operands separated by commas if it has any. The directive, the
case and the separators are the default spellings of RENDER (log entry 16). -/
def Obligations.ListingTextOfRecords : Prop :=
  ∀ r : Record,
    (r.mnemonic = none → renderInstr r = ".word ".toList ++ hpad r.cp.toNat (2 * r.cw) ∧
      (renderInstr r).length = 8 + 2 * r.cw) ∧
    (∀ m, r.mnemonic = some m → r.ops = [] → renderInstr r = m.toList.map lowerChar) ∧
    (∀ m, r.mnemonic = some m → r.ops ≠ [] →
      renderInstr r = m.toList.map lowerChar ++ [' '] ++ List.intercalate [','] (r.ops.map renderOperand))

/-- 43_listing R271, R272 and R274 to R285, 10_state R43: numbers in lowercase hexadecimal digits without leading zeros
(an immediate padded to two digits for each byte), registers by name, and the text of every operand class. They are the
default spellings of RENDER (log entry 16). -/
def Obligations.ListingTextOfOperands : Prop :=
  let hex : Nat → List Char := fun v => ['0', 'x'] ++ Nat.toDigits 16 v
  let reg : RegNo → List Char := fun r =>
    if r = 14 then ['s', 'p'] else if r = 15 then ['p', 'c'] else 'r' :: Nat.toDigits 10 r.toNat
  let suffix : Tag → List Char := fun t =>
    if t = .fFloat then [':', 'f'] else if t = .dFloat then [':', 'd'] else if t = .gFloat then [':', 'g']
    else if t = .hFloat then [':', 'h'] else []
  ∀ (h : OperandHead) (r : RegNo) (b : OperandRecord) (a d : Word) (n : Nat),
    (∀ v, renderOperand (.shortLiteral h v) = ['S', '^', '#'] ++ Nat.toDigits 10 v.toNat ++ suffix h.tag) ∧
    renderOperand (.indexed h r b) = renderOperand b ++ ['['] ++ reg r ++ [']'] ∧
    renderOperand (.register h r) = reg r ∧
    renderOperand (.registerDeferred h r) = ['('] ++ reg r ++ [')'] ∧
    renderOperand (.autodecrement h r) = ['-', '('] ++ reg r ++ [')'] ∧
    renderOperand (.autoincrement h r) = ['('] ++ reg r ++ [')', '+'] ∧
    (∀ v w, 1 ≤ w → v < 256 ^ w →
      renderOperand (.immediate h v w) = ['I', '^', '#', '0', 'x'] ++
        List.replicate (2 * w - (Nat.toDigits 16 v).length) '0' ++ Nat.toDigits 16 v ++ suffix h.tag) ∧
    renderOperand (.autoincrementDeferred h r) = ['@', '('] ++ reg r ++ [')', '+'] ∧
    renderOperand (.absolute h a) = ['@', '#'] ++ hex a.toNat ∧
    renderOperand (.displacement h r n d false) = hex d.toNat ++ ['('] ++ reg r ++ [')'] ∧
    renderOperand (.displacement h r n d true) = ['@'] ++ hex d.toNat ++ ['('] ++ reg r ++ [')'] ∧
    renderOperand (.pcRelative h n d false a) = hex a.toNat ∧
    renderOperand (.pcRelative h n d true a) = ['@'] ++ hex a.toNat ∧
    renderOperand (.branch h n d a) = hex a.toNat
end

