-- ==== Sys2Proof/Laws/Decode.lean ====
section
/-! SUPPORT. The laws of the decoder's pieces: bounds, bytes and little-endian numbers, mode bytes, and what an operand's
decoding can answer. -/
namespace Sys2Proof

/-! ### Bounds and fetches -/

theorem checkRead_eq_ok {size a n p : Nat} : checkRead size a n = .ok p ↔ a + n ≤ size ∧ p = a + n := by
  unfold checkRead; split
  · simp only [reduceCtorEq, false_iff]; omega
  · simp only [Except.ok.injEq]; omega

theorem checkRead_eq_error {size a n : Nat} {f : DecodeFault} :
    checkRead size a n = .error f ↔ size < a + n ∧ f = .oob a n := by
  unfold checkRead; split
  · simp only [Except.error.injEq]; exact ⟨fun h => ⟨by omega, h.symm⟩, fun h => h.2.symm⟩
  · simp only [reduceCtorEq, false_iff]; omega

theorem Source.fetch_eq_ok {src : Source} {n a v p : Nat} :
    src.fetch n a = .ok (v, p) ↔ a + n ≤ src.size ∧ v = src.le n a ∧ p = a + n := by
  unfold Source.fetch
  cases h : checkRead src.size a n with
  | error f => rw [checkRead_eq_error] at h; simp only [reduceCtorEq, false_iff]; omega
  | ok q =>
    rw [checkRead_eq_ok] at h
    simp only [Except.ok.injEq, Prod.mk.injEq]
    exact ⟨fun e => ⟨h.1, e.1.symm, e.2 ▸ h.2⟩, fun e => ⟨e.2.1.symm, h.2.trans e.2.2.symm⟩⟩

theorem Source.fetch_eq_error {src : Source} {n a : Nat} {f : DecodeFault} :
    src.fetch n a = .error f ↔ src.size < a + n ∧ f = .oob a n := by
  unfold Source.fetch
  cases h : checkRead src.size a n with
  | error g =>
    have := checkRead_eq_error.1 h
    simp only [Except.error.injEq]
    exact ⟨fun e => e ▸ this, fun e => this.2.trans e.2.symm⟩
  | ok q => rw [checkRead_eq_ok] at h; simp only [reduceCtorEq, false_iff]; omega

theorem Source.fetch_of_le {src : Source} {n a : Nat} (h : a + n ≤ src.size) :
    src.fetch n a = .ok (src.le n a, a + n) := fetch_eq_ok.2 ⟨h, rfl, rfl⟩

theorem Source.fetch_of_lt {src : Source} {n a : Nat} (h : src.size < a + n) :
    src.fetch n a = .error (.oob a n) := fetch_eq_error.2 ⟨h, rfl⟩

/-! ### Little-endian numbers -/

theorem Source.le_lt (src : Source) (n a : Nat) : src.le n a < 256 ^ n := by
  induction n generalizing a with
  | zero => simp [Source.le]
  | succ n ih =>
    have h1 := (src.byte a).isLt
    have h2 := ih (a + 1)
    simp only [Source.le, Nat.pow_succ]
    omega

theorem Source.le_one (src : Source) (a : Nat) : src.le 1 a = (src.byte a).toNat := by simp [Source.le]

theorem Source.ofNat_le_one (src : Source) (a : Nat) : BitVec.ofNat 8 (src.le 1 a) = src.byte a := by
  simp [Source.le]

@[simp] theorem length_leBytes (n v : Nat) : (leBytes n v).length = n := by
  induction n generalizing v with
  | zero => rfl
  | succ n ih => simp [leBytes, ih]

/-- The number of bytes that hold `leBytes n v` is `v`, if `v` fits. -/
theorem Source.le_of_leBytes (src : Source) (n v a : Nat) (hv : v < 256 ^ n)
    (h : ∀ j, j < n → src.byte (a + j) = (leBytes n v).getD j 0) : src.le n a = v := by
  induction n generalizing v a with
  | zero => simp only [Nat.pow_zero] at hv; simp only [Source.le]; omega
  | succ n ih =>
    have h0 := h 0 (by omega)
    simp only [Nat.add_zero, leBytes, List.getD_cons_zero] at h0
    have hrest := ih (v / 256) (a + 1) (by rw [Nat.pow_succ] at hv; omega) (fun j hj => by
      have := h (j + 1) (by omega)
      rw [show a + 1 + j = a + (j + 1) by omega, this, leBytes, List.getD_cons_succ])
    simp only [Source.le, hrest, h0, BitVec.toNat_ofNat]
    omega

/-- The bytes of the number of `n` bytes are these bytes. -/
theorem Source.getD_leBytes_le (src : Source) (n a j : Nat) (hj : j < n) :
    (leBytes n (src.le n a)).getD j 0 = src.byte (a + j) := by
  induction n generalizing a j with
  | zero => omega
  | succ n ih =>
    have hlt := (src.byte a).isLt
    cases j with
    | zero =>
      simp only [Source.le, leBytes, List.getD_cons_zero, Nat.add_zero]
      apply BitVec.eq_of_toNat_eq
      simp only [BitVec.toNat_ofNat]
      omega
    | succ j =>
      simp only [Source.le, leBytes, List.getD_cons_succ]
      rw [show ((src.byte a).toNat + 256 * src.le n (a + 1)) / 256 = src.le n (a + 1) by omega,
        ih (a + 1) j (by omega), show a + 1 + j = a + (j + 1) by omega]

/-! ### Tags and mode bytes -/

theorem Tag.ofCode_code (t : Tag) : Tag.ofCode t.code = some t := by cases t <;> rfl

theorem Tag.ofCode_eq_some {c : BitVec 4} {t : Tag} : Tag.ofCode c = some t ↔ c = t.code := by
  cases t <;> revert c <;> decide

theorem Tag.ofCode_eq_none {c : BitVec 4} : Tag.ofCode c = none ↔ 11 ≤ c.toNat := by
  revert c; decide

theorem Tag.width_pos (t : Tag) : 1 ≤ t.width := by cases t <;> decide

theorem modeNibble_modeByte (n : BitVec 4) (r : RegNo) : modeNibble (modeByte n r) = n := by
  revert n r; decide

theorem regNibble_modeByte (n : BitVec 4) (r : RegNo) : regNibble (modeByte n r) = r := by
  revert n r; decide

theorem modeByte_nibbles (m : Byte) : modeByte (modeNibble m) (regNibble m) = m := by
  revert m; decide

/-- The bytes of a class (30_encoding R123), as the nibbles of the mode byte. -/
def ModeClass.hasByte (m : Byte) : ModeClass → Bool
  | .shortLiteral => (m.extractLsb' 0 6).setWidth 8 == m
  | .indexed => m == modeByte 4 (regNibble m)
  | .register => m == modeByte 5 (regNibble m)
  | .registerDeferred => m == modeByte 6 (regNibble m)
  | .autodecrement => m == modeByte 7 (regNibble m)
  | .autoincrement => m == modeByte 8 (regNibble m) && regNibble m != 15
  | .immediate => m == 0x8F
  | .autoincrementDeferred => m == modeByte 9 (regNibble m) && regNibble m != 15
  | .absolute => m == 0x9F
  | .displacement w d => m == modeByte (dispNibble w d) (regNibble m) && regNibble m != 15
  | .pcRelative w d => m == modeByte (dispNibble w d) 15

/-- Every mode byte is one of its class. -/
theorem modeClass_hasByte (m : Byte) : (modeClass m).hasByte m = true := by revert m; decide

theorem modeClass_shortLiteral (v : BitVec 6) : modeClass (v.setWidth 8) = .shortLiteral := by
  revert v; decide

theorem extract_shortLiteral (v : BitVec 6) : (v.setWidth 8 : Byte).extractLsb' 0 6 = v := by
  revert v; decide

theorem modeClass_indexed (r : RegNo) : modeClass (modeByte 4 r) = .indexed := by revert r; decide
theorem modeClass_register (r : RegNo) : modeClass (modeByte 5 r) = .register := by revert r; decide
theorem modeClass_registerDeferred (r : RegNo) : modeClass (modeByte 6 r) = .registerDeferred := by
  revert r; decide
theorem modeClass_autodecrement (r : RegNo) : modeClass (modeByte 7 r) = .autodecrement := by revert r; decide
theorem modeClass_autoincrement (r : RegNo) (h : r ≠ 15) : modeClass (modeByte 8 r) = .autoincrement := by
  revert r; decide
theorem modeClass_autoincrementDeferred (r : RegNo) (h : r ≠ 15) :
    modeClass (modeByte 9 r) = .autoincrementDeferred := by revert r; decide

theorem modeClass_disp (w : DispWidth) (d : Bool) (r : RegNo) :
    modeClass (modeByte (dispNibble w d) r) = dispClass w d r := by
  cases w <;> cases d <;> revert r <;> decide

/-! ### What decoding can answer -/

/-- A decoded displacement: its bytes lie in memory, and it has the width asked for. -/
theorem decodeDisp_ok {src : Source} {w : DispWidth} {a p : Nat} {d : Disp} (h : decodeDisp src w a = .ok (d, p)) :
    a + w.bytes ≤ src.size ∧ p = a + w.bytes ∧ d.width = w ∧
    d = (match (generalizing := false) w with
      | .byte => .byte (BitVec.ofNat 8 (src.le 1 a))
      | .word => .word (BitVec.ofNat 16 (src.le 2 a))
      | .long => .long (BitVec.ofNat 32 (src.le 4 a))) := by
  unfold decodeDisp at h
  cases hf : src.fetch w.bytes a with
  | error f => rw [hf] at h; simp at h
  | ok vp =>
    obtain ⟨v, q⟩ := vp
    rw [hf] at h
    obtain ⟨hle, rfl, rfl⟩ := Source.fetch_eq_ok.1 hf
    cases w <;> simp only [Except.ok.injEq, Prod.mk.injEq] at h <;> obtain ⟨rfl, rfl⟩ := h <;>
      exact ⟨hle, rfl, rfl, rfl⟩

theorem decodeDisp_error {src : Source} {w : DispWidth} {a : Nat} {f : DecodeFault}
    (h : decodeDisp src w a = .error f) : f = .oob a w.bytes ∧ src.size < a + w.bytes := by
  unfold decodeDisp at h
  cases hf : src.fetch w.bytes a with
  | error g =>
    rw [hf] at h
    obtain ⟨hlt, rfl⟩ := Source.fetch_eq_error.1 hf
    simp only [Except.error.injEq] at h
    exact ⟨h.symm, hlt⟩
  | ok vp => rw [hf] at h; cases w <;> simp at h

/-- The operand syntax that the bytes of a class other than INDEXED hold, and the address after them. -/
theorem decodeSpecifier_succ (limit : Option Nat) (src : Source) (t : Tag) (fuel depth a : Nat) (h : a + 1 ≤ src.size) :
    decodeSpecifier limit src t (fuel + 1) depth a =
      match modeClass (src.byte a) with
      | .shortLiteral => .ok (.shortLiteral ((src.byte a).extractLsb' 0 6), a + 1)
      | .indexed =>
        if chainFull limit depth then .error (.indexChain a)
        else
          match decodeSpecifier limit src t fuel (depth + 1) (a + 1) with
          | .error f => .error f
          | .ok (base, q) => .ok (.indexed (regNibble (src.byte a)) base, q)
      | .register => .ok (.register (regNibble (src.byte a)), a + 1)
      | .registerDeferred => .ok (.registerDeferred (regNibble (src.byte a)), a + 1)
      | .autodecrement => .ok (.autodecrement (regNibble (src.byte a)), a + 1)
      | .autoincrement => .ok (.autoincrement (regNibble (src.byte a)), a + 1)
      | .immediate =>
        match src.fetch t.width (a + 1) with
        | .error f => .error f
        | .ok (v, q) => .ok (.immediate v, q)
      | .autoincrementDeferred => .ok (.autoincrementDeferred (regNibble (src.byte a)), a + 1)
      | .absolute =>
        match src.fetch 4 (a + 1) with
        | .error f => .error f
        | .ok (v, q) => .ok (.absolute (BitVec.ofNat 32 v), q)
      | .displacement w deferred =>
        match decodeDisp src w (a + 1) with
        | .error f => .error f
        | .ok (d, q) => .ok (.displacement (regNibble (src.byte a)) d deferred, q)
      | .pcRelative w deferred =>
        match decodeDisp src w (a + 1) with
        | .error f => .error f
        | .ok (d, q) => .ok (.pcRelative d deferred, q) := by
  conv_lhs => unfold decodeSpecifier
  rw [Source.fetch_of_le h]
  simp only [Source.ofNat_le_one] <;> rfl

end Sys2Proof
end

