-- ==== Sys2Proof/Laws/Memory.lean ====
section
/-! SUPPORT. The laws of MEM: what a read sees after a write, and that every memory operation keeps the canonical form. -/
namespace Sys2Proof.Machine

theorem readCells_writeCells_same (cs : List Host.Cell) (a : Nat) (b : Byte) (lo : Nat) (h : cellsWf lo cs = true) :
    readCells (writeCells cs a b) a = b := by
  induction cs generalizing lo with
  | nil => by_cases hb : b = unlistedByte <;> simp [writeCells, readCells, hb]
  | cons c cs ih =>
    obtain ⟨k, v⟩ := c
    simp only [cellsWf, Bool.and_eq_true, decide_eq_true_eq] at h
    have tail : ∀ (cs : List Host.Cell) (lo : Nat), cellsWf lo cs = true → a < lo → readCells cs a = unlistedByte := by
      intro cs
      induction cs with
      | nil => intros; rfl
      | cons d ds ihd =>
        intro lo hd hlt
        obtain ⟨j, w⟩ := d
        simp only [cellsWf, Bool.and_eq_true, decide_eq_true_eq] at hd
        rw [readCells, if_neg (by omega)]
        exact ihd (j + 1) hd.2 (by omega)
    simp only [writeCells]
    split
    · split
      · subst b
        rw [readCells, if_neg (by omega)]
        exact tail cs (k + 1) h.2 (by omega)
      · simp [readCells]
    · split
      · split
        · subst b; exact tail cs (k + 1) h.2 (by omega)
        · simp [readCells]
      · rw [readCells, if_neg (by omega)]; exact ih (k + 1) h.2

theorem readCells_writeCells_other (cs : List Host.Cell) (a b' : Nat) (b : Byte) (hne : b' ≠ a) :
    readCells (writeCells cs a b) b' = readCells cs b' := by
  induction cs with
  | nil => by_cases hb : b = unlistedByte <;> simp [writeCells, readCells, hb, Ne.symm hne]
  | cons c cs ih =>
    obtain ⟨k, v⟩ := c
    simp only [writeCells]
    split
    · split
      · rfl
      · rw [readCells, if_neg (Ne.symm hne)]
    · split
      · subst k
        split
        · rw [readCells, if_neg (Ne.symm hne)]
        · rw [readCells, readCells, if_neg (Ne.symm hne), if_neg (Ne.symm hne)]
      · rw [readCells, readCells, ih]

theorem cellsWf_mono (cs : List Host.Cell) (lo lo' : Nat) (hle : lo' ≤ lo) (h : cellsWf lo cs = true) :
    cellsWf lo' cs = true := by
  cases cs with
  | nil => rfl
  | cons c cs =>
    obtain ⟨k, v⟩ := c
    simp only [cellsWf, Bool.and_eq_true, decide_eq_true_eq] at h ⊢
    exact ⟨⟨by omega, h.1.2⟩, h.2⟩

theorem cellsWf_writeCells (cs : List Host.Cell) (a : Nat) (b : Byte) (lo : Nat) (hlo : lo ≤ a)
    (h : cellsWf lo cs = true) : cellsWf lo (writeCells cs a b) = true := by
  induction cs generalizing lo with
  | nil =>
    by_cases hb : b = unlistedByte
    · simp [writeCells, hb, cellsWf]
    · simp [writeCells, hb, cellsWf, hlo]
  | cons c cs ih =>
    obtain ⟨k, v⟩ := c
    have h' := h
    simp only [cellsWf, Bool.and_eq_true, decide_eq_true_eq] at h
    simp only [writeCells]
    split
    · split
      · exact h'
      · next hlt hb =>
        simp only [cellsWf, Bool.and_eq_true, decide_eq_true_eq]
        exact ⟨⟨hlo, hb⟩, ⟨by omega, h.1.2⟩, h.2⟩
    · split
      · split
        · exact cellsWf_mono cs (k + 1) lo (by omega) h.2
        · next hb =>
          simp only [cellsWf, Bool.and_eq_true, decide_eq_true_eq]
          subst k
          exact ⟨⟨hlo, hb⟩, h.2⟩
      · simp only [cellsWf, Bool.and_eq_true, decide_eq_true_eq]
        exact ⟨h.1, ih (k + 1) (by omega) h.2⟩

theorem Memory.read_zero (a : Nat) : Memory.zero.read a = 0 := rfl

theorem Memory.wf_zero : Memory.zero.wf = true := rfl

theorem Memory.read_write_same (m : Memory) (a : Nat) (b : Byte) (h : m.wf = true) : (m.write a b).read a = b :=
  readCells_writeCells_same m.cells a b 0 h

theorem Memory.read_write_other (m : Memory) (a a' : Nat) (b : Byte) (h : a' ≠ a) :
    (m.write a b).read a' = m.read a' := readCells_writeCells_other m.cells a a' b h

theorem Memory.wf_write (m : Memory) (a : Nat) (b : Byte) (h : m.wf = true) : (m.write a b).wf = true :=
  cellsWf_writeCells m.cells a b 0 (Nat.zero_le a) h

theorem Memory.wf_writeBytes (m : Memory) (a : Nat) (bs : List Byte) (h : m.wf = true) :
    (m.writeBytes a bs).wf = true := by
  induction bs generalizing m a with
  | nil => exact h
  | cons b bs ih => exact ih _ _ (m.wf_write a b h)

/-- What a read sees after bytes are written from `a`: the byte written there, or what it saw before. -/
theorem Memory.read_writeBytes (m : Memory) (a : Nat) (bs : List Byte) (a' : Nat) (h : m.wf = true) :
    (m.writeBytes a bs).read a' =
      if a ≤ a' ∧ a' < a + bs.length then bs.getD (a' - a) 0 else m.read a' := by
  induction bs generalizing m a with
  | nil => simp only [Memory.writeBytes, List.length_nil]; rw [if_neg (by omega)]
  | cons b bs ih =>
    rw [Memory.writeBytes, ih _ _ (m.wf_write a b h)]
    by_cases h1 : a + 1 ≤ a' ∧ a' < a + 1 + bs.length
    · rw [if_pos h1, if_pos (by simp only [List.length_cons]; omega)]
      rw [show a' - a = (a' - (a + 1)) + 1 by omega]
      simp
    · rw [if_neg h1]
      by_cases h2 : a' = a
      · subst h2
        rw [Memory.read_write_same _ _ _ h, if_pos (by simp only [List.length_cons]; omega)]
        simp
      · rw [Memory.read_write_other _ _ _ _ h2, if_neg (by simp only [List.length_cons]; omega)]

theorem writeCells_below (cs : List Host.Cell) (a size : Nat) (b : Byte) (ha : a < size)
    (h : cs.all (fun c => decide (c.1 < size)) = true) :
    (writeCells cs a b).all (fun c => decide (c.1 < size)) = true := by
  induction cs with
  | nil => by_cases hb : b = unlistedByte <;> simp [writeCells, hb, ha]
  | cons c cs ih =>
    obtain ⟨k, v⟩ := c
    simp only [List.all_cons, Bool.and_eq_true, decide_eq_true_eq] at h
    simp only [writeCells]
    split
    · split <;> simp only [List.all_cons, Bool.and_eq_true, decide_eq_true_eq]
      · exact h
      · exact ⟨ha, h⟩
    · split
      · split
        · exact h.2
        · simp only [List.all_cons, Bool.and_eq_true, decide_eq_true_eq]; exact ⟨ha, h.2⟩
      · simp only [List.all_cons, Bool.and_eq_true, decide_eq_true_eq]; exact ⟨h.1, ih h.2⟩

/-- Bytes written below the end of memory leave every listed address below it. -/
theorem Memory.below_writeBytes (m : Memory) (a size : Nat) (bs : List Byte) (ha : a + bs.length ≤ size)
    (h : m.below size = true) : (m.writeBytes a bs).below size = true := by
  induction bs generalizing m a with
  | nil => exact h
  | cons b bs ih =>
    simp only [List.length_cons] at ha
    exact ih _ _ (by omega) (writeCells_below m.cells a size b (by omega) h)

theorem Memory.length_slice (m : Memory) (a n : Nat) : (m.slice a n).length = n := by
  induction n generalizing a with
  | zero => rfl
  | succ n ih => simp [Memory.slice, ih]

theorem Memory.getD_slice (m : Memory) (a n j : Nat) (h : j < n) : (m.slice a n).getD j 0 = m.read (a + j) := by
  induction n generalizing a j with
  | zero => omega
  | succ n ih =>
    cases j with
    | zero => simp [Memory.slice]
    | succ j =>
      have := ih (a + 1) j (by omega)
      rw [show a + (j + 1) = a + 1 + j by omega, ← this]
      simp [Memory.slice]

/-- Two slices of `n` bytes are one when every byte is. -/
theorem Memory.slice_eq (m : Memory) (a : Nat) (bs : List Byte)
    (h : ∀ j, j < bs.length → m.read (a + j) = bs.getD j 0) : m.slice a bs.length = bs := by
  induction bs generalizing a with
  | nil => rfl
  | cons b bs ih =>
    have h0 := h 0 (by simp)
    simp only [List.length_cons, Memory.slice]
    rw [ih (a + 1) (fun j hj => by
      have := h (j + 1) (by simpa using hj)
      rw [show a + 1 + j = a + (j + 1) by omega, this]; simp)]
    simpa using h0

end Sys2Proof.Machine
end

