-- ==== Sys2Proof/Laws/Operands.lean ====
section
/-! SUPPORT. Bytes held in memory, and what decoding an operand can answer: the operand whose encoding stands there, or
a fault of one of three kinds; each is said once here, for every mode class. -/
namespace Sys2Proof.Machine

theorem holds_append {src : Source} {a : Nat} {xs ys : List Byte} :
    Holds src a (xs ++ ys) ↔ Holds src a xs ∧ Holds src (a + xs.length) ys := by
  unfold Holds
  simp only [List.length_append]
  constructor
  · rintro ⟨h1, h2⟩
    refine ⟨⟨by omega, fun j hj => ?_⟩, by omega, fun j hj => ?_⟩
    · rw [h2 j (by omega), List.getD_append _ _ _ _ hj]
    · rw [Nat.add_assoc, h2 (xs.length + j) (by omega), List.getD_append_right _ _ _ _ (by omega)]
      simp
  · rintro ⟨⟨h1, h2⟩, h3, h4⟩
    refine ⟨by omega, fun j hj => ?_⟩
    by_cases hjx : j < xs.length
    · rw [h2 j hjx, List.getD_append _ _ _ _ hjx]
    · have := h4 (j - xs.length) (by omega)
      rw [show a + xs.length + (j - xs.length) = a + j by omega] at this
      rw [this, List.getD_append_right _ _ _ _ (by omega)]

theorem holds_cons {src : Source} {a : Nat} {x : Byte} {ys : List Byte} :
    Holds src a (x :: ys) ↔ a < src.size ∧ src.byte a = x ∧ Holds src (a + 1) ys := by
  rw [show x :: ys = [x] ++ ys from rfl, holds_append]
  simp only [Holds, List.length_singleton]
  constructor
  · rintro ⟨⟨h1, h2⟩, h3⟩; exact ⟨by omega, by simpa using h2 0 (by omega), h3⟩
  · rintro ⟨h1, h2, h3⟩
    exact ⟨⟨by omega, fun j hj => by obtain rfl : j = 0 := by omega
                                     simpa using h2⟩, h3⟩

/-- Fetching a number that stands encoded little-endian gives it back. -/
theorem holds_leBytes {src : Source} {a n v : Nat} (h : Holds src a (leBytes n v)) (hv : v < 256 ^ n) :
    src.fetch n a = .ok (v, a + n) := by
  have h1 := h.1; have h2 := h.2
  rw [length_leBytes] at h1 h2
  rw [Source.fetch_of_le h1, src.le_of_leBytes n v a hv h2]

/-- A displacement field that stands encoded is decoded as itself. -/
theorem decodeDisp_encode {src : Source} {a : Nat} (d : Disp) (h : Holds src a (encodeDisp d)) :
    decodeDisp src d.width a = .ok (d, a + (encodeDisp d).length) := by
  unfold decodeDisp
  cases d with
  | byte d => simp only [Disp.width, DispWidth.bytes, encodeDisp, length_leBytes] at *
              rw [holds_leBytes h (by have := d.isLt; simpa using this)]; simp
  | word d => simp only [Disp.width, DispWidth.bytes, encodeDisp, length_leBytes] at *
              rw [holds_leBytes h (by have := d.isLt; simpa using this)]; simp
  | long d => simp only [Disp.width, DispWidth.bytes, encodeDisp, length_leBytes] at *
              rw [holds_leBytes h (by have := d.isLt; simpa using this)]; simp

/-- A general specifier that stands encoded is decoded as itself, whatever its class. -/
theorem decodeSpecifier_encode (limit : Option Nat) (src : Source) (t : Tag) (sp : Specifier) :
    ∀ fuel depth a, sp.wellFormed t = true → chainAllowed limit (depth + sp.indexBytes) = true →
      Holds src a (encodeSpecifier t sp) → src.size - a ≤ fuel →
      decodeSpecifier limit src t fuel depth a = .ok (sp, a + (encodeSpecifier t sp).length) := by
  induction sp with
  | indexed x base ih =>
    intro fuel depth a wf ch h hf
    rw [encodeSpecifier, holds_cons] at h
    obtain ⟨ha, hb, hrest⟩ := h
    obtain ⟨f, rfl⟩ : ∃ f, fuel = f + 1 := ⟨fuel - 1, by omega⟩
    rw [decodeSpecifier_succ _ _ _ _ _ _ ha, hb, modeClass_indexed]
    have hc : chainFull limit depth = false := by
      unfold chainFull chainAllowed Specifier.indexBytes at *
      cases limit <;> simp at *; omega
    simp only [hc, Bool.false_eq_true, if_false]
    rw [ih f (depth + 1) (a + 1) (by simpa [Specifier.wellFormed] using wf)
      (by simpa [Specifier.indexBytes, Nat.add_assoc, Nat.add_comm, Nat.add_left_comm] using ch) hrest (by omega)]
    simp [regNibble_modeByte, encodeSpecifier]; omega
  | shortLiteral v =>
    intro fuel depth a wf ch h hf
    rw [encodeSpecifier, holds_cons] at h
    obtain ⟨ha, hb, hrest⟩ := h
    obtain ⟨f, rfl⟩ : ∃ f, fuel = f + 1 := ⟨fuel - 1, by omega⟩
    rw [decodeSpecifier_succ _ _ _ _ _ _ ha, hb, modeClass_shortLiteral, extract_shortLiteral]; rfl
  | register r =>
    intro fuel depth a wf ch h hf
    rw [encodeSpecifier, holds_cons] at h
    obtain ⟨ha, hb, hrest⟩ := h
    obtain ⟨f, rfl⟩ : ∃ f, fuel = f + 1 := ⟨fuel - 1, by omega⟩
    rw [decodeSpecifier_succ _ _ _ _ _ _ ha, hb, modeClass_register, regNibble_modeByte]; rfl
  | registerDeferred r =>
    intro fuel depth a wf ch h hf
    rw [encodeSpecifier, holds_cons] at h
    obtain ⟨ha, hb, hrest⟩ := h
    obtain ⟨f, rfl⟩ : ∃ f, fuel = f + 1 := ⟨fuel - 1, by omega⟩
    rw [decodeSpecifier_succ _ _ _ _ _ _ ha, hb, modeClass_registerDeferred, regNibble_modeByte]; rfl
  | autodecrement r =>
    intro fuel depth a wf ch h hf
    rw [encodeSpecifier, holds_cons] at h
    obtain ⟨ha, hb, hrest⟩ := h
    obtain ⟨f, rfl⟩ : ∃ f, fuel = f + 1 := ⟨fuel - 1, by omega⟩
    rw [decodeSpecifier_succ _ _ _ _ _ _ ha, hb, modeClass_autodecrement, regNibble_modeByte]; rfl
  | autoincrement r =>
    intro fuel depth a wf ch h hf
    rw [encodeSpecifier, holds_cons] at h
    obtain ⟨ha, hb, hrest⟩ := h
    obtain ⟨f, rfl⟩ : ∃ f, fuel = f + 1 := ⟨fuel - 1, by omega⟩
    rw [decodeSpecifier_succ _ _ _ _ _ _ ha, hb, modeClass_autoincrement r (by simpa [Specifier.wellFormed] using wf), regNibble_modeByte]; rfl
  | autoincrementDeferred r =>
    intro fuel depth a wf ch h hf
    rw [encodeSpecifier, holds_cons] at h
    obtain ⟨ha, hb, hrest⟩ := h
    obtain ⟨f, rfl⟩ : ∃ f, fuel = f + 1 := ⟨fuel - 1, by omega⟩
    rw [decodeSpecifier_succ _ _ _ _ _ _ ha, hb, modeClass_autoincrementDeferred r (by simpa [Specifier.wellFormed] using wf), regNibble_modeByte]; rfl
  | immediate v =>
    intro fuel depth a wf ch h hf
    rw [encodeSpecifier, holds_cons] at h
    obtain ⟨ha, hb, hrest⟩ := h
    obtain ⟨f, rfl⟩ : ∃ f, fuel = f + 1 := ⟨fuel - 1, by omega⟩
    rw [decodeSpecifier_succ _ _ _ _ _ _ ha, hb, show modeClass 0x8F = .immediate from by decide]
    simp only [Specifier.wellFormed, decide_eq_true_eq] at wf
    simp only []
    rw [holds_leBytes hrest (by rw [show 256 = 2 ^ 8 from rfl, ← Nat.pow_mul]; exact wf)]
    simp [encodeSpecifier]; omega
  | absolute v =>
    intro fuel depth a wf ch h hf
    rw [encodeSpecifier, holds_cons] at h
    obtain ⟨ha, hb, hrest⟩ := h
    obtain ⟨f, rfl⟩ : ∃ f, fuel = f + 1 := ⟨fuel - 1, by omega⟩
    rw [decodeSpecifier_succ _ _ _ _ _ _ ha, hb, show modeClass 0x9F = .absolute from by decide]
    simp only []
    rw [holds_leBytes hrest (by have := v.isLt; simpa using this)]
    simp [encodeSpecifier]
  | displacement r d df =>
    intro fuel depth a wf ch h hf
    rw [encodeSpecifier, holds_cons] at h
    obtain ⟨ha, hb, hrest⟩ := h
    obtain ⟨f, rfl⟩ : ∃ f, fuel = f + 1 := ⟨fuel - 1, by omega⟩
    have hr : r ≠ 15 := by simpa [Specifier.wellFormed] using wf
    rw [decodeSpecifier_succ _ _ _ _ _ _ ha, hb, modeClass_disp, dispClass, if_neg hr]
    simp only [decodeDisp_encode d hrest, regNibble_modeByte]
    simp [encodeSpecifier]; omega
  | pcRelative d df =>
    intro fuel depth a wf ch h hf
    rw [encodeSpecifier, holds_cons] at h
    obtain ⟨ha, hb, hrest⟩ := h
    obtain ⟨f, rfl⟩ : ∃ f, fuel = f + 1 := ⟨fuel - 1, by omega⟩
    rw [decodeSpecifier_succ _ _ _ _ _ _ ha, hb, modeClass_disp, dispClass, if_pos rfl]
    simp only [decodeDisp_encode d hrest]
    simp [encodeSpecifier]; omega

theorem decodeOperand_encode (limit : Option Nat) (src : Source) (o : Operand) (a : Nat) (wf : o.wellFormed = true)
    (ch : chainAllowed limit o.indexBytes = true) (h : Holds src a (encodeOperand o)) :
    decodeOperand limit src o.tag.code a = .ok (o, a + (encodeOperand o).length) := by
  unfold decodeOperand
  rw [Tag.ofCode_code]
  cases o with
  | general t sp =>
    simp only [Operand.wellFormed, Bool.and_eq_true] at wf
    have := decodeSpecifier_encode limit src t sp (src.size - a) 0 a wf.2 (by simpa [Operand.indexBytes] using ch) h (le_refl _)
    simp only [Operand.tag, encodeOperand] at *
    cases t <;> simp_all [Tag.isGeneral]
  | branch8 d =>
    simp only [encodeOperand, Operand.tag] at *
    rw [holds_leBytes h (by have := d.isLt; simpa using this)]; simp
  | branch16 d =>
    simp only [encodeOperand, Operand.tag] at *
    rw [holds_leBytes h (by have := d.isLt; simpa using this)]; simp

theorem decodeOperands_encode (limit : Option Nat) (src : Source) (os : List Operand) (a : Nat)
    (wf : os.all Operand.wellFormed = true) (ch : os.all (fun o => chainAllowed limit o.indexBytes) = true)
    (h : Holds src a (os.flatMap encodeOperand)) :
    decodeOperands limit src ((os.map Operand.tag).map Tag.code) a = .ok (os, a + (os.flatMap encodeOperand).length) := by
  induction os generalizing a with
  | nil => rfl
  | cons o os ih =>
    simp only [List.all_cons, Bool.and_eq_true] at wf ch
    rw [List.flatMap_cons, holds_append] at h
    simp only [List.map_cons, decodeOperands]
    rw [decodeOperand_encode limit src o a wf.1 ch.1 h.1]
    simp only []
    rw [ih _ wf.2 ch.2 h.2]
    simp; omega

theorem resolveOperands_encode (limit : Option Nat) (src : Source) (os : List Operand) (a : Nat)
    (wf : os.all Operand.wellFormed = true) (ch : os.all (fun o => chainAllowed limit o.indexBytes) = true)
    (h : Holds src a (os.flatMap encodeOperand)) :
    resolveOperands limit src ((os.map Operand.tag).map Tag.code) a =
      .ok (operandRecordsAt a os, a + (os.flatMap encodeOperand).length) := by
  induction os generalizing a with
  | nil => rfl
  | cons o os ih =>
    simp only [List.all_cons, Bool.and_eq_true] at wf ch
    rw [List.flatMap_cons, holds_append] at h
    simp only [List.map_cons, resolveOperands, resolveOperand]
    rw [decodeOperand_encode limit src o a wf.1 ch.1 h.1]
    simp only []
    rw [ih _ wf.2 ch.2 h.2]
    simp [operandRecordsAt]; omega

/-- Each operand record carries its operand's tag. -/
theorem tags_operandRecordsAt (a : Nat) (os : List Operand) :
    (operandRecordsAt a os).map (fun r => r.head.tag) = os.map Operand.tag := by
  have head_tag : ∀ (a b : Nat) (o : Operand), (operandRecord a b o).head.tag = o.tag := by
    intro a b o
    cases o with
    | general t sp => cases sp <;> rfl
    | _ => rfl
  induction os generalizing a with
  | nil => rfl
  | cons o os ih => simp [operandRecordsAt, ih, head_tag]

theorem length_operandRecordsAt (a : Nat) (os : List Operand) : (operandRecordsAt a os).length = os.length := by
  induction os generalizing a with
  | nil => rfl
  | cons o os ih => simp [operandRecordsAt, ih]

theorem holds_le (src : Source) (n a : Nat) (h : a + n ≤ src.size) : Holds src a (leBytes n (src.le n a)) :=
  ⟨by simpa using h, fun j hj => by
    rw [length_leBytes] at hj
    exact (src.getD_leBytes_le n a j hj).symm⟩

theorem holds_nil {src : Source} {a : Nat} : Holds src a [] ↔ a ≤ src.size := by
  simp [Holds]

theorem length_encodeDisp (d : Disp) : (encodeDisp d).length = d.width.bytes := by
  cases d <;> simp [encodeDisp, Disp.width, DispWidth.bytes]

/-- A displacement field that is decoded stands encoded where it was read. -/
theorem decodeDisp_holds {src : Source} {w : DispWidth} {a p : Nat} {d : Disp}
    (h : decodeDisp src w a = .ok (d, p)) :
    d.width = w ∧ p = a + (encodeDisp d).length ∧ Holds src a (encodeDisp d) := by
  obtain ⟨hle, rfl, hw, hd⟩ := decodeDisp_ok h
  refine ⟨hw, by rw [length_encodeDisp, hw], ?_⟩
  have hlt := src.le_lt w.bytes a
  cases w <;> subst hd <;> simp only [DispWidth.bytes] at hle hlt <;> simp only [encodeDisp, BitVec.toNat_ofNat]
  · rw [Nat.mod_eq_of_lt (by simpa using hlt)]; exact holds_le src _ a hle
  · rw [Nat.mod_eq_of_lt (by simpa using hlt)]; exact holds_le src _ a hle
  · rw [Nat.mod_eq_of_lt (by simpa using hlt)]; exact holds_le src _ a hle

theorem Source.fetch_holds {src : Source} {n a v p : Nat} (h : src.fetch n a = .ok (v, p)) :
    p = a + n ∧ v < 256 ^ n ∧ Holds src a (leBytes n v) := by
  obtain ⟨hle, rfl, rfl⟩ := Source.fetch_eq_ok.1 h
  exact ⟨rfl, src.le_lt n a, holds_le src n a hle⟩

/-- A general specifier that is decoded is well-formed and stands encoded where it was read, and its index bytes are as
many as the limit allows. -/
theorem decodeSpecifier_ok {limit : Option Nat} {src : Source} {t : Tag} :
    ∀ {fuel depth a q : Nat} {sp : Specifier}, decodeSpecifier limit src t fuel depth a = .ok (sp, q) →
      chainAllowed limit depth = true →
      sp.wellFormed t = true ∧ q = a + (encodeSpecifier t sp).length ∧ Holds src a (encodeSpecifier t sp) ∧
        chainAllowed limit (depth + sp.indexBytes) = true := by
  intro fuel
  induction fuel with
  | zero => intro depth a q sp h; simp [decodeSpecifier] at h
  | succ fuel ih =>
    intro depth a q sp h hc
    by_cases ha : a + 1 ≤ src.size
    · rw [decodeSpecifier_succ _ _ _ _ _ _ ha] at h
      have hb := modeClass_hasByte (src.byte a)
      have hone : ∀ {m : Byte} {bs : List Byte}, src.byte a = m → Holds src (a + 1) bs → Holds src a (m :: bs) :=
        fun h1 h2 => holds_cons.2 ⟨ha, h1, h2⟩
      have hnil : Holds src (a + 1) [] := holds_nil.2 ha
      cases hm : modeClass (src.byte a) <;> rw [hm] at h hb <;>
        simp only [ModeClass.hasByte, beq_iff_eq, Bool.and_eq_true, bne_iff_ne] at h hb
      case shortLiteral =>
        simp only [Except.ok.injEq, Prod.mk.injEq] at h; obtain ⟨rfl, rfl⟩ := h
        exact ⟨rfl, rfl, hone hb.symm hnil, hc⟩
      case register =>
        simp only [Except.ok.injEq, Prod.mk.injEq] at h; obtain ⟨rfl, rfl⟩ := h
        exact ⟨rfl, rfl, hone hb hnil, hc⟩
      case registerDeferred =>
        simp only [Except.ok.injEq, Prod.mk.injEq] at h; obtain ⟨rfl, rfl⟩ := h
        exact ⟨rfl, rfl, hone hb hnil, hc⟩
      case autodecrement =>
        simp only [Except.ok.injEq, Prod.mk.injEq] at h; obtain ⟨rfl, rfl⟩ := h
        exact ⟨rfl, rfl, hone hb hnil, hc⟩
      case autoincrement =>
        simp only [Except.ok.injEq, Prod.mk.injEq] at h; obtain ⟨rfl, rfl⟩ := h
        exact ⟨by simpa [Specifier.wellFormed] using hb.2, rfl, hone hb.1 hnil, hc⟩
      case autoincrementDeferred =>
        simp only [Except.ok.injEq, Prod.mk.injEq] at h; obtain ⟨rfl, rfl⟩ := h
        exact ⟨by simpa [Specifier.wellFormed] using hb.2, rfl, hone hb.1 hnil, hc⟩
      case immediate =>
        cases hf : src.fetch t.width (a + 1) with
        | error f => rw [hf] at h; simp at h
        | ok vp =>
          obtain ⟨v, p⟩ := vp
          rw [hf] at h
          simp only [Except.ok.injEq, Prod.mk.injEq] at h; obtain ⟨rfl, rfl⟩ := h
          obtain ⟨rfl, hv, hh⟩ := Source.fetch_holds hf
          refine ⟨?_, by simp [encodeSpecifier]; omega, hone hb hh, hc⟩
          simp only [Specifier.wellFormed, decide_eq_true_eq]
          rw [Nat.pow_mul]; exact hv
      case absolute =>
        cases hf : src.fetch 4 (a + 1) with
        | error f => rw [hf] at h; simp at h
        | ok vp =>
          obtain ⟨v, p⟩ := vp
          rw [hf] at h
          simp only [Except.ok.injEq, Prod.mk.injEq] at h; obtain ⟨rfl, rfl⟩ := h
          obtain ⟨rfl, hv, hh⟩ := Source.fetch_holds hf
          have e : (BitVec.ofNat 32 v).toNat = v := by
            rw [BitVec.toNat_ofNat]; exact Nat.mod_eq_of_lt (by simpa using hv)
          refine ⟨rfl, by simp [encodeSpecifier], ?_, hc⟩
          simp only [encodeSpecifier, e]; exact hone hb hh
      case displacement w df =>
        cases hd : decodeDisp src w (a + 1) with
        | error f => rw [hd] at h; simp at h
        | ok dp =>
          obtain ⟨d, p⟩ := dp
          rw [hd] at h
          simp only [Except.ok.injEq, Prod.mk.injEq] at h; obtain ⟨rfl, rfl⟩ := h
          obtain ⟨rfl, rfl, hh⟩ := decodeDisp_holds hd
          exact ⟨by simpa [Specifier.wellFormed] using hb.2, by simp [encodeSpecifier]; omega, hone hb.1 hh, hc⟩
      case pcRelative w df =>
        cases hd : decodeDisp src w (a + 1) with
        | error f => rw [hd] at h; simp at h
        | ok dp =>
          obtain ⟨d, p⟩ := dp
          rw [hd] at h
          simp only [Except.ok.injEq, Prod.mk.injEq] at h; obtain ⟨rfl, rfl⟩ := h
          obtain ⟨rfl, rfl, hh⟩ := decodeDisp_holds hd
          exact ⟨rfl, by simp [encodeSpecifier]; omega, hone hb hh, hc⟩
      case indexed =>
        by_cases hf : chainFull limit depth = true
        · rw [if_pos hf] at h; simp at h
        · rw [if_neg hf] at h
          have hc' : chainAllowed limit (depth + 1) = true := by
            unfold chainFull chainAllowed at *; cases limit <;> simp at *; omega
          cases hr : decodeSpecifier limit src t fuel (depth + 1) (a + 1) with
          | error f => rw [hr] at h; simp at h
          | ok bp =>
            obtain ⟨base, p⟩ := bp
            rw [hr] at h
            simp only [Except.ok.injEq, Prod.mk.injEq] at h; obtain ⟨rfl, rfl⟩ := h
            obtain ⟨h1, h2, h3, h4⟩ := ih hr hc'
            refine ⟨h1, by simp [encodeSpecifier]; omega, hone hb h3, ?_⟩
            rw [Specifier.indexBytes, show depth + (base.indexBytes + 1) = depth + 1 + base.indexBytes by omega]
            exact h4
    · unfold decodeSpecifier at h
      rw [Source.fetch_of_lt (by omega)] at h
      simp at h

/-- An operand that is decoded has the tag of its code, is well-formed and stands encoded where it was read. -/
theorem decodeOperand_ok {limit : Option Nat} {src : Source} {c : BitVec 4} {a q : Nat} {o : Operand}
    (h : decodeOperand limit src c a = .ok (o, q)) :
    o.tag.code = c ∧ o.wellFormed = true ∧ q = a + (encodeOperand o).length ∧ Holds src a (encodeOperand o) ∧
      chainAllowed limit o.indexBytes = true := by
  have hc0 : chainAllowed limit 0 = true := by unfold chainAllowed; cases limit <;> simp
  unfold decodeOperand at h
  cases ht : Tag.ofCode c with
  | none => rw [ht] at h; simp at h
  | some t =>
    rw [ht] at h
    rw [Tag.ofCode_eq_some] at ht
    have hgen : t.isGeneral = true →
        (match decodeSpecifier limit src t (src.size - a) 0 a with
        | .error f => Except.error f
        | .ok (sp, p) => Except.ok (Operand.general t sp, p)) = .ok (o, q) →
        o.tag.code = c ∧ o.wellFormed = true ∧ q = a + (encodeOperand o).length ∧ Holds src a (encodeOperand o) ∧
          chainAllowed limit o.indexBytes = true := by
      intro hg h
      cases hs : decodeSpecifier limit src t (src.size - a) 0 a with
      | error f => rw [hs] at h; simp at h
      | ok sq =>
        obtain ⟨sp, p⟩ := sq
        rw [hs] at h
        simp only [Except.ok.injEq, Prod.mk.injEq] at h; obtain ⟨rfl, rfl⟩ := h
        obtain ⟨h1, h2, h3, h4⟩ := decodeSpecifier_ok hs hc0
        exact ⟨ht.symm, by simp [Operand.wellFormed, hg, h1], h2, h3, by simpa [Operand.indexBytes] using h4⟩
    cases t
    case bdisp8 =>
      simp only at h
      cases hf : src.fetch 1 a with
      | error f => rw [hf] at h; simp at h
      | ok vp =>
        obtain ⟨v, p⟩ := vp
        rw [hf] at h
        simp only [Except.ok.injEq, Prod.mk.injEq] at h; obtain ⟨rfl, rfl⟩ := h
        obtain ⟨rfl, hv, hh⟩ := Source.fetch_holds hf
        have e : (BitVec.ofNat 8 v).toNat = v := by
          rw [BitVec.toNat_ofNat]; exact Nat.mod_eq_of_lt (by simpa using hv)
        exact ⟨ht.symm, rfl, by simp [encodeOperand], by simpa only [encodeOperand, e] using hh, hc0⟩
    case bdisp16 =>
      simp only at h
      cases hf : src.fetch 2 a with
      | error f => rw [hf] at h; simp at h
      | ok vp =>
        obtain ⟨v, p⟩ := vp
        rw [hf] at h
        simp only [Except.ok.injEq, Prod.mk.injEq] at h; obtain ⟨rfl, rfl⟩ := h
        obtain ⟨rfl, hv, hh⟩ := Source.fetch_holds hf
        have e : (BitVec.ofNat 16 v).toNat = v := by
          rw [BitVec.toNat_ofNat]; exact Nat.mod_eq_of_lt (by simpa using hv)
        exact ⟨ht.symm, rfl, by simp [encodeOperand], by simpa only [encodeOperand, e] using hh, hc0⟩
    all_goals exact hgen rfl h

/-- The same for operands one after another. -/
theorem decodeOperands_ok {limit : Option Nat} {src : Source} :
    ∀ {cs : List (BitVec 4)} {a q : Nat} {os : List Operand}, a ≤ src.size →
      decodeOperands limit src cs a = .ok (os, q) →
      os.map (fun o => o.tag.code) = cs ∧ os.all Operand.wellFormed = true ∧
        q = a + (os.flatMap encodeOperand).length ∧ Holds src a (os.flatMap encodeOperand) ∧
        os.all (fun o => chainAllowed limit o.indexBytes) = true := by
  intro cs
  induction cs with
  | nil =>
    intro a q os ha h
    simp only [decodeOperands, Except.ok.injEq, Prod.mk.injEq] at h; obtain ⟨rfl, rfl⟩ := h
    exact ⟨rfl, rfl, rfl, holds_nil.2 ha, rfl⟩
  | cons c cs ih =>
    intro a q os ha h
    simp only [decodeOperands] at h
    cases hd : decodeOperand limit src c a with
    | error f => rw [hd] at h; simp at h
    | ok op =>
      obtain ⟨o, p⟩ := op
      rw [hd] at h
      obtain ⟨h1, h2, rfl, h4, h5⟩ := decodeOperand_ok hd
      simp only at h
      cases hr : decodeOperands limit src cs (a + (encodeOperand o).length) with
      | error f => rw [hr] at h; simp at h
      | ok osp =>
        obtain ⟨os', p'⟩ := osp
        rw [hr] at h
        simp only [Except.ok.injEq, Prod.mk.injEq] at h; obtain ⟨rfl, rfl⟩ := h
        obtain ⟨g1, g2, rfl, g4, g5⟩ := ih h4.1 hr
        refine ⟨by simp [h1, g1], by simp [h2, g2], by simp; omega, ?_, by simp [h5, g5]⟩
        rw [List.flatMap_cons]; exact holds_append.2 ⟨h4, g4⟩

theorem encodeSpecifier_pos (t : Tag) (sp : Specifier) : 1 ≤ (encodeSpecifier t sp).length := by
  cases sp <;> simp [encodeSpecifier]

theorem encodeOperand_pos (o : Operand) : 1 ≤ (encodeOperand o).length := by
  cases o <;> simp [encodeOperand, encodeSpecifier_pos]

/-! ### The faults of an operand -/

/-- A fault that decoding from `a` can raise: a read past the end of memory of one of the five widths, or an index byte
past a finite limit. -/
def OperandFault (limit : Option Nat) (src : Source) (a : Nat) (f : DecodeFault) : Prop :=
  (∃ addr n, f = .oob addr n ∧ a ≤ addr ∧ (a ≤ src.size → addr ≤ src.size) ∧ src.size < addr + n ∧
    n ∈ [1, 2, 4, 8, 16]) ∨
  (∃ addr, f = .indexChain addr ∧ limit ≠ none ∧ a ≤ addr ∧ addr < src.size)

theorem OperandFault.mono {limit : Option Nat} {src : Source} {a b : Nat} {f : DecodeFault} (hab : a ≤ b)
    (hb : b ≤ src.size) (h : OperandFault limit src b f) : OperandFault limit src a f := by
  rcases h with ⟨addr, n, rfl, h1, h2, h3, h4⟩ | ⟨addr, rfl, h1, h2, h3⟩
  · exact .inl ⟨addr, n, rfl, by omega, fun _ => h2 hb, h3, h4⟩
  · exact .inr ⟨addr, rfl, h1, by omega, h3⟩

theorem tagWidth_mem (t : Tag) : t.width ∈ [1, 2, 4, 8, 16] := by cases t <;> decide
theorem dispBytes_mem (w : DispWidth) : w.bytes ∈ [1, 2, 4, 8, 16] := by cases w <;> decide

theorem Source.fetch_fault {src : Source} {n a : Nat} {f : DecodeFault} (limit : Option Nat)
    (hn : n ∈ [1, 2, 4, 8, 16]) (h : src.fetch n a = .error f) : OperandFault limit src a f := by
  obtain ⟨hlt, rfl⟩ := Source.fetch_eq_error.1 h
  exact .inl ⟨a, n, rfl, Nat.le_refl a, id, hlt, hn⟩

/-- The fault of a general specifier. -/
theorem decodeSpecifier_error {limit : Option Nat} {src : Source} {t : Tag} :
    ∀ {fuel depth a : Nat} {f : DecodeFault}, src.size - a ≤ fuel →
      decodeSpecifier limit src t fuel depth a = .error f → OperandFault limit src a f := by
  intro fuel
  induction fuel with
  | zero =>
    intro depth a f hfuel h
    simp only [decodeSpecifier, Except.error.injEq] at h; subst h
    exact .inl ⟨a, 1, rfl, Nat.le_refl a, id, by omega, by decide⟩
  | succ fuel ih =>
    intro depth a f hfuel h
    by_cases ha : a + 1 ≤ src.size
    · rw [decodeSpecifier_succ _ _ _ _ _ _ ha] at h
      have hlit : ∀ {n : Nat} {g : DecodeFault}, n ∈ [1, 2, 4, 8, 16] → src.fetch n (a + 1) = .error g →
          OperandFault limit src a g := fun hn hg =>
        (Source.fetch_fault limit hn hg).mono (by omega) ha
      have hdisp : ∀ {w : DispWidth} {g : DecodeFault}, decodeDisp src w (a + 1) = .error g →
          OperandFault limit src a g := by
        intro w g hg
        obtain ⟨rfl, hlt⟩ := decodeDisp_error hg
        exact hlit (dispBytes_mem w) (Source.fetch_of_lt hlt)
      cases hm : modeClass (src.byte a) <;> rw [hm] at h <;> simp only [reduceCtorEq] at h
      case immediate =>
        cases hf : src.fetch t.width (a + 1) with
        | error g => rw [hf] at h; simp only [Except.error.injEq] at h; subst h; exact hlit (tagWidth_mem t) hf
        | ok vp => rw [hf] at h; simp at h
      case absolute =>
        cases hf : src.fetch 4 (a + 1) with
        | error g => rw [hf] at h; simp only [Except.error.injEq] at h; subst h; exact hlit (by decide) hf
        | ok vp => rw [hf] at h; simp at h
      case displacement w df =>
        cases hf : decodeDisp src w (a + 1) with
        | error g => rw [hf] at h; simp only [Except.error.injEq] at h; subst h; exact hdisp hf
        | ok vp => rw [hf] at h; simp at h
      case pcRelative w df =>
        cases hf : decodeDisp src w (a + 1) with
        | error g => rw [hf] at h; simp only [Except.error.injEq] at h; subst h; exact hdisp hf
        | ok vp => rw [hf] at h; simp at h
      case indexed =>
        by_cases hc : chainFull limit depth = true
        · rw [if_pos hc] at h
          simp only [Except.error.injEq] at h; subst h
          refine .inr ⟨a, rfl, ?_, Nat.le_refl a, by omega⟩
          rintro rfl; simp [chainFull] at hc
        · rw [if_neg hc] at h
          cases hr : decodeSpecifier limit src t fuel (depth + 1) (a + 1) with
          | error g =>
            rw [hr] at h; simp only [Except.error.injEq] at h; subst h
            exact (ih (by omega) hr).mono (by omega) ha
          | ok bp => rw [hr] at h; simp at h
    · unfold decodeSpecifier at h
      rw [Source.fetch_of_lt (by omega)] at h
      simp only [Except.error.injEq] at h; subst h
      exact .inl ⟨a, 1, rfl, Nat.le_refl a, id, by omega, by decide⟩

/-- The fault of an operand: an invalid tag code at the address it is reached, or a fault of a valid one. -/
theorem decodeOperand_error {limit : Option Nat} {src : Source} {c : BitVec 4} {a : Nat} {f : DecodeFault}
    (h : decodeOperand limit src c a = .error f) :
    (11 ≤ c.toNat ∧ f = .badTag a c) ∨ (c.toNat < 11 ∧ OperandFault limit src a f) := by
  unfold decodeOperand at h
  cases ht : Tag.ofCode c with
  | none =>
    rw [ht] at h; simp only [Except.error.injEq] at h
    exact .inl ⟨Tag.ofCode_eq_none.1 ht, h.symm⟩
  | some t =>
    rw [ht] at h
    have hlt : c.toNat < 11 := by
      by_contra hge
      rw [Tag.ofCode_eq_none.2 (by omega)] at ht; simp at ht
    refine .inr ⟨hlt, ?_⟩
    have hgen : (match decodeSpecifier limit src t (src.size - a) 0 a with
        | .error f => Except.error f
        | .ok (sp, p) => Except.ok (Operand.general t sp, p)) = .error f → OperandFault limit src a f := by
      intro h
      cases hs : decodeSpecifier limit src t (src.size - a) 0 a with
      | error g =>
        rw [hs] at h; simp only [Except.error.injEq] at h; subst h
        exact decodeSpecifier_error (Nat.le_refl _) hs
      | ok sq => rw [hs] at h; simp at h
    cases t
    case bdisp8 =>
      simp only at h
      cases hf : src.fetch 1 a with
      | error g =>
        rw [hf] at h; simp only [Except.error.injEq] at h; subst h
        exact Source.fetch_fault limit (by decide) hf
      | ok vp => rw [hf] at h; simp at h
    case bdisp16 =>
      simp only at h
      cases hf : src.fetch 2 a with
      | error g =>
        rw [hf] at h; simp only [Except.error.injEq] at h; subst h
        exact Source.fetch_fault limit (by decide) hf
      | ok vp => rw [hf] at h; simp at h
    all_goals exact hgen h

/-- The records that a tag list is resolved to are those of the operands it is decoded to. -/
theorem resolveOperands_eq (limit : Option Nat) (src : Source) (cs : List (BitVec 4)) (a : Nat) :
    resolveOperands limit src cs a =
      match decodeOperands limit src cs a with
      | .error f => .error f
      | .ok (os, q) => .ok (operandRecordsAt a os, q) := by
  induction cs generalizing a with
  | nil => rfl
  | cons c cs ih =>
    simp only [resolveOperands, decodeOperands, resolveOperand]
    cases hd : decodeOperand limit src c a with
    | error f => rfl
    | ok op =>
      obtain ⟨o, p⟩ := op
      obtain ⟨-, -, rfl, -, -⟩ := decodeOperand_ok hd
      simp only [ih]
      cases hr : decodeOperands limit src cs (a + (encodeOperand o).length) with
      | error f => rfl
      | ok osp => rfl

/-- The fault of an operand list: an invalid code among its codes, or a fault of a valid operand. -/
theorem decodeOperands_error {limit : Option Nat} {src : Source} :
    ∀ {cs : List (BitVec 4)} {a : Nat} {f : DecodeFault}, decodeOperands limit src cs a = .error f →
      (∃ addr c, c ∈ cs ∧ 11 ≤ c.toNat ∧ f = .badTag addr c ∧ a ≤ addr ∧ (a ≤ src.size → addr ≤ src.size)) ∨
        OperandFault limit src a f := by
  intro cs
  induction cs with
  | nil => intro a f h; simp [decodeOperands] at h
  | cons c cs ih =>
    intro a f h
    simp only [decodeOperands] at h
    cases hd : decodeOperand limit src c a with
    | error g =>
      rw [hd] at h; simp only [Except.error.injEq] at h; subst h
      rcases decodeOperand_error hd with ⟨h1, rfl⟩ | ⟨-, h2⟩
      · exact .inl ⟨a, c, by simp, h1, rfl, Nat.le_refl a, id⟩
      · exact .inr h2
    | ok op =>
      obtain ⟨o, p⟩ := op
      rw [hd] at h
      obtain ⟨-, -, rfl, h4, -⟩ := decodeOperand_ok hd
      simp only at h
      cases hr : decodeOperands limit src cs (a + (encodeOperand o).length) with
      | error g =>
        rw [hr] at h; simp only [Except.error.injEq] at h; subst h
        rcases ih hr with ⟨addr, c', h1, h2, rfl, h3, h5⟩ | h2
        · exact .inl ⟨addr, c', by simp [h1], h2, rfl, by omega, fun _ => h5 h4.1⟩
        · exact .inr (h2.mono (by omega) h4.1)
      | ok osp => rw [hr] at h; simp at h

end Sys2Proof.Machine
end

