-- ==== Sys2Proof/Laws/State.lean ====
section
/-! SUPPORT. One lemma per field for each update of State by a shared operation, true by rfl: a proof cites these and
unfolds no record update. -/
namespace Sys2Proof.Machine

/-! ### State.takeFault -/

@[simp] theorem State.takeFault_mem (s : State) (start : Nat) (f : InstrFault) : (s.takeFault start f).mem = s.mem := rfl
@[simp] theorem State.takeFault_x (s : State) (start : Nat) (f : InstrFault) : (s.takeFault start f).x = s.x := rfl
@[simp] theorem State.takeFault_pc (s : State) (start : Nat) (f : InstrFault) : (s.takeFault start f).pc = (Config.freePc s.freeCount).toNat % (s.params.memSize + 1) := rfl
@[simp] theorem State.takeFault_csegSize (s : State) (start : Nat) (f : InstrFault) : (s.takeFault start f).csegSize = s.csegSize := rfl
@[simp] theorem State.takeFault_loadErr (s : State) (start : Nat) (f : InstrFault) : (s.takeFault start f).loadErr = s.loadErr := rfl
@[simp] theorem State.takeFault_faultRegs (s : State) (start : Nat) (f : InstrFault) : (s.takeFault start f).faultRegs = faultRegsOf s.freeFaultAddr start f := rfl
@[simp] theorem State.takeFault_params (s : State) (start : Nat) (f : InstrFault) : (s.takeFault start f).params = s.params := rfl
@[simp] theorem State.takeFault_phase (s : State) (start : Nat) (f : InstrFault) : (s.takeFault start f).phase = .fault := rfl
@[simp] theorem State.takeFault_start (s : State) (start : Nat) (f : InstrFault) : (s.takeFault start f).start = 0 := rfl
@[simp] theorem State.takeFault_cp (s : State) (start : Nat) (f : InstrFault) : (s.takeFault start f).cp = 0 := rfl
@[simp] theorem State.takeFault_cw (s : State) (start : Nat) (f : InstrFault) : (s.takeFault start f).cw = 1 := rfl
@[simp] theorem State.takeFault_desc (s : State) (start : Nat) (f : InstrFault) : (s.takeFault start f).desc = none := rfl
@[simp] theorem State.takeFault_k (s : State) (start : Nat) (f : InstrFault) : (s.takeFault start f).k = 0 := rfl
@[simp] theorem State.takeFault_ops (s : State) (start : Nat) (f : InstrFault) : (s.takeFault start f).ops = [] := rfl
@[simp] theorem State.takeFault_out (s : State) (start : Nat) (f : InstrFault) : (s.takeFault start f).out = s.out := rfl
@[simp] theorem State.takeFault_inputs (s : State) (start : Nat) (f : InstrFault) : (s.takeFault start f).inputs = s.inputs := rfl
@[simp] theorem State.takeFault_ready (s : State) (start : Nat) (f : InstrFault) : (s.takeFault start f).ready = s.ready := rfl
@[simp] theorem State.takeFault_accepted (s : State) (start : Nat) (f : InstrFault) : (s.takeFault start f).accepted = s.accepted := rfl
@[simp] theorem State.takeFault_freeCount (s : State) (start : Nat) (f : InstrFault) : (s.takeFault start f).freeCount = s.freeCount + 1 := rfl

/-- The fault registers of a fault are a function of what the run is over and of the fault (42_decode_loop R250): OPTABLE
and MEM count as maps, however the state lists them, and no earlier run, no counter and no control state has a part. -/
theorem State.takeFault_faultRegs_congr (s t : State) (start : Nat) (f : InstrFault)
    (hsize : s.params.memSize = t.params.memSize) (hescape : s.params.escapeByte = t.params.escapeByte)
    (hlimit : s.params.indexChainLimit = t.params.indexChainLimit)
    (htable : ∀ cp, s.params.optable cp = t.params.optable cp) (hmem : ∀ a, s.mem.read a = t.mem.read a)
    (hcseg : s.csegSize = t.csegSize) :
    (s.takeFault start f).faultRegs = (t.takeFault start f).faultRegs := by
  simp only [State.takeFault_faultRegs, State.freeFaultAddr, hsize, hescape, hlimit, funext htable, funext hmem, hcseg]

/-! ### State.startRun -/

@[simp] theorem State.startRun_mem (s : State) : (s.startRun).mem = s.mem := rfl
@[simp] theorem State.startRun_x (s : State) : (s.startRun).x = s.x := rfl
@[simp] theorem State.startRun_pc (s : State) : (s.startRun).pc = 0 := rfl
@[simp] theorem State.startRun_csegSize (s : State) : (s.startRun).csegSize = s.csegSize := rfl
@[simp] theorem State.startRun_loadErr (s : State) : (s.startRun).loadErr = s.loadErr := rfl
@[simp] theorem State.startRun_faultRegs (s : State) : (s.startRun).faultRegs = FaultRegs.clear := rfl
@[simp] theorem State.startRun_params (s : State) : (s.startRun).params = s.params := rfl
@[simp] theorem State.startRun_phase (s : State) : (s.startRun).phase = .fetchOpcode := rfl
@[simp] theorem State.startRun_start (s : State) : (s.startRun).start = s.start := rfl
@[simp] theorem State.startRun_cp (s : State) : (s.startRun).cp = s.cp := rfl
@[simp] theorem State.startRun_cw (s : State) : (s.startRun).cw = s.cw := rfl
@[simp] theorem State.startRun_desc (s : State) : (s.startRun).desc = s.desc := rfl
@[simp] theorem State.startRun_k (s : State) : (s.startRun).k = s.k := rfl
@[simp] theorem State.startRun_ops (s : State) : (s.startRun).ops = s.ops := rfl
@[simp] theorem State.startRun_out (s : State) : (s.startRun).out = none := rfl
@[simp] theorem State.startRun_inputs (s : State) : (s.startRun).inputs = s.inputs := rfl
@[simp] theorem State.startRun_ready (s : State) : (s.startRun).ready = s.ready := rfl
@[simp] theorem State.startRun_accepted (s : State) : (s.startRun).accepted = [] := rfl
@[simp] theorem State.startRun_freeCount (s : State) : (s.startRun).freeCount = s.freeCount := rfl

/-! ### State.present -/

@[simp] theorem State.present_mem (s : State) (stop : Nat) (cp : Codepoint) (cw : Nat) (desc : Option Descriptor) (ops : List OperandRecord) : (s.present stop cp cw desc ops).mem = s.mem := rfl
@[simp] theorem State.present_x (s : State) (stop : Nat) (cp : Codepoint) (cw : Nat) (desc : Option Descriptor) (ops : List OperandRecord) : (s.present stop cp cw desc ops).x = s.x := rfl
@[simp] theorem State.present_pc (s : State) (stop : Nat) (cp : Codepoint) (cw : Nat) (desc : Option Descriptor) (ops : List OperandRecord) : (s.present stop cp cw desc ops).pc = stop := rfl
@[simp] theorem State.present_csegSize (s : State) (stop : Nat) (cp : Codepoint) (cw : Nat) (desc : Option Descriptor) (ops : List OperandRecord) : (s.present stop cp cw desc ops).csegSize = s.csegSize := rfl
@[simp] theorem State.present_loadErr (s : State) (stop : Nat) (cp : Codepoint) (cw : Nat) (desc : Option Descriptor) (ops : List OperandRecord) : (s.present stop cp cw desc ops).loadErr = s.loadErr := rfl
@[simp] theorem State.present_faultRegs (s : State) (stop : Nat) (cp : Codepoint) (cw : Nat) (desc : Option Descriptor) (ops : List OperandRecord) : (s.present stop cp cw desc ops).faultRegs = s.faultRegs := rfl
@[simp] theorem State.present_params (s : State) (stop : Nat) (cp : Codepoint) (cw : Nat) (desc : Option Descriptor) (ops : List OperandRecord) : (s.present stop cp cw desc ops).params = s.params := rfl
@[simp] theorem State.present_phase (s : State) (stop : Nat) (cp : Codepoint) (cw : Nat) (desc : Option Descriptor) (ops : List OperandRecord) : (s.present stop cp cw desc ops).phase = .emit := rfl
@[simp] theorem State.present_start (s : State) (stop : Nat) (cp : Codepoint) (cw : Nat) (desc : Option Descriptor) (ops : List OperandRecord) : (s.present stop cp cw desc ops).start = s.pc := rfl
@[simp] theorem State.present_cp (s : State) (stop : Nat) (cp : Codepoint) (cw : Nat) (desc : Option Descriptor) (ops : List OperandRecord) : (s.present stop cp cw desc ops).cp = cp := rfl
@[simp] theorem State.present_cw (s : State) (stop : Nat) (cp : Codepoint) (cw : Nat) (desc : Option Descriptor) (ops : List OperandRecord) : (s.present stop cp cw desc ops).cw = cw := rfl
@[simp] theorem State.present_desc (s : State) (stop : Nat) (cp : Codepoint) (cw : Nat) (desc : Option Descriptor) (ops : List OperandRecord) : (s.present stop cp cw desc ops).desc = desc := rfl
@[simp] theorem State.present_k (s : State) (stop : Nat) (cp : Codepoint) (cw : Nat) (desc : Option Descriptor) (ops : List OperandRecord) : (s.present stop cp cw desc ops).k = ops.length := rfl
@[simp] theorem State.present_ops (s : State) (stop : Nat) (cp : Codepoint) (cw : Nat) (desc : Option Descriptor) (ops : List OperandRecord) : (s.present stop cp cw desc ops).ops = ops := rfl
@[simp] theorem State.present_out (s : State) (stop : Nat) (cp : Codepoint) (cw : Nat) (desc : Option Descriptor) (ops : List OperandRecord) : (s.present stop cp cw desc ops).out = some (recordOver s.mem s.pc stop cp cw (desc.map Descriptor.mnemonic) ops) := rfl
@[simp] theorem State.present_inputs (s : State) (stop : Nat) (cp : Codepoint) (cw : Nat) (desc : Option Descriptor) (ops : List OperandRecord) : (s.present stop cp cw desc ops).inputs = s.inputs := rfl
@[simp] theorem State.present_ready (s : State) (stop : Nat) (cp : Codepoint) (cw : Nat) (desc : Option Descriptor) (ops : List OperandRecord) : (s.present stop cp cw desc ops).ready = s.ready := rfl
@[simp] theorem State.present_accepted (s : State) (stop : Nat) (cp : Codepoint) (cw : Nat) (desc : Option Descriptor) (ops : List OperandRecord) : (s.present stop cp cw desc ops).accepted = s.accepted := rfl
@[simp] theorem State.present_freeCount (s : State) (stop : Nat) (cp : Codepoint) (cw : Nat) (desc : Option Descriptor) (ops : List OperandRecord) : (s.present stop cp cw desc ops).freeCount = s.freeCount := rfl

/-! ### State.accept -/

@[simp] theorem State.accept_mem (s : State) (r : Record) : (s.accept r).mem = s.mem := rfl
@[simp] theorem State.accept_x (s : State) (r : Record) : (s.accept r).x = s.x := rfl
@[simp] theorem State.accept_pc (s : State) (r : Record) : (s.accept r).pc = s.pc := rfl
@[simp] theorem State.accept_csegSize (s : State) (r : Record) : (s.accept r).csegSize = s.csegSize := rfl
@[simp] theorem State.accept_loadErr (s : State) (r : Record) : (s.accept r).loadErr = s.loadErr := rfl
@[simp] theorem State.accept_faultRegs (s : State) (r : Record) : (s.accept r).faultRegs = s.faultRegs := rfl
@[simp] theorem State.accept_params (s : State) (r : Record) : (s.accept r).params = s.params := rfl
@[simp] theorem State.accept_phase (s : State) (r : Record) : (s.accept r).phase = .fetchOpcode := rfl
@[simp] theorem State.accept_start (s : State) (r : Record) : (s.accept r).start = s.start := rfl
@[simp] theorem State.accept_cp (s : State) (r : Record) : (s.accept r).cp = s.cp := rfl
@[simp] theorem State.accept_cw (s : State) (r : Record) : (s.accept r).cw = s.cw := rfl
@[simp] theorem State.accept_desc (s : State) (r : Record) : (s.accept r).desc = s.desc := rfl
@[simp] theorem State.accept_k (s : State) (r : Record) : (s.accept r).k = s.k := rfl
@[simp] theorem State.accept_ops (s : State) (r : Record) : (s.accept r).ops = s.ops := rfl
@[simp] theorem State.accept_out (s : State) (r : Record) : (s.accept r).out = none := rfl
@[simp] theorem State.accept_inputs (s : State) (r : Record) : (s.accept r).inputs = s.inputs := rfl
@[simp] theorem State.accept_ready (s : State) (r : Record) : (s.accept r).ready = s.ready := rfl
@[simp] theorem State.accept_accepted (s : State) (r : Record) : (s.accept r).accepted = s.accepted ++ [r] := rfl
@[simp] theorem State.accept_freeCount (s : State) (r : Record) : (s.accept r).freeCount = s.freeCount := rfl

/-! ### State.hostReset -/

@[simp] theorem State.hostReset_mem (s : State) : s.hostReset.mem = Memory.zero := rfl
@[simp] theorem State.hostReset_x (s : State) : s.hostReset.x = Vector.replicate 15 0 := rfl
@[simp] theorem State.hostReset_pc (s : State) : s.hostReset.pc = 0 := rfl
@[simp] theorem State.hostReset_csegSize (s : State) : s.hostReset.csegSize = 0 := rfl
@[simp] theorem State.hostReset_loadErr (s : State) : s.hostReset.loadErr = false := rfl
@[simp] theorem State.hostReset_faultRegs (s : State) : s.hostReset.faultRegs = FaultRegs.clear := rfl
@[simp] theorem State.hostReset_params (s : State) : s.hostReset.params = s.params := rfl
@[simp] theorem State.hostReset_phase (s : State) : s.hostReset.phase = .idle := rfl
@[simp] theorem State.hostReset_start (s : State) : s.hostReset.start = 0 := rfl
@[simp] theorem State.hostReset_cp (s : State) : s.hostReset.cp = 0 := rfl
@[simp] theorem State.hostReset_cw (s : State) : s.hostReset.cw = 1 := rfl
@[simp] theorem State.hostReset_desc (s : State) : s.hostReset.desc = none := rfl
@[simp] theorem State.hostReset_k (s : State) : s.hostReset.k = 0 := rfl
@[simp] theorem State.hostReset_ops (s : State) : s.hostReset.ops = [] := rfl
@[simp] theorem State.hostReset_out (s : State) : s.hostReset.out = none := rfl
@[simp] theorem State.hostReset_inputs (s : State) : s.hostReset.inputs = s.inputs := rfl
@[simp] theorem State.hostReset_ready (s : State) : s.hostReset.ready = s.ready := rfl
@[simp] theorem State.hostReset_accepted (s : State) : s.hostReset.accepted = [] := rfl
@[simp] theorem State.hostReset_freeCount (s : State) : s.hostReset.freeCount = s.freeCount := rfl

@[simp] theorem State.source_size (s : State) : s.source.size = s.params.memSize := rfl
@[simp] theorem State.source_byte (s : State) (a : Nat) : s.source.byte a = s.mem.read a := rfl

end Sys2Proof.Machine
end

