-- ==== Sys2Proof/Laws/Engine.lean ====
section
/-! SUPPORT. The opcode phase, the table, and what an instruction and a step of the engine can answer; one lemma for
each operation, which a proof cites instead of unfolding it. -/
namespace Sys2Proof.Machine

/-! ### The opcode field -/

theorem ofNat_toNat_byte (b : Byte) : BitVec.ofNat 8 b.toNat = b := by simp

/-- An opcode field that is read: one byte that is not the escape byte, or the escape byte and any byte. -/
theorem fetchOpcode_ok {e : Byte} {src : Source} {a cw q : Nat} {cp : Codepoint}
    (h : fetchOpcode e src a = .ok (cp, cw, q)) :
    q = a + cw ∧ q ≤ src.size ∧
    (cw = 1 ∧ src.byte a ≠ e ∧ cp = BitVec.ofNat 16 (src.byte a).toNat ∨
      cw = 2 ∧ src.byte a = e ∧ cp = BitVec.ofNat 16 (e.toNat * 256 + (src.byte (a + 1)).toNat)) := by
  unfold fetchOpcode at h
  by_cases h0 : a + 1 ≤ src.size
  · rw [Source.fetch_of_le h0] at h
    simp only [Source.le_one, ofNat_toNat_byte] at h
    by_cases hb : src.byte a = e
    · rw [if_pos hb] at h
      by_cases h1 : a + 1 + 1 ≤ src.size
      · rw [Source.fetch_of_le h1] at h
        simp only [Source.le_one, Except.ok.injEq, Prod.mk.injEq] at h
        obtain ⟨rfl, rfl, rfl⟩ := h
        exact ⟨rfl, h1, .inr ⟨rfl, hb, by rw [hb]⟩⟩
      · rw [Source.fetch_of_lt (by omega)] at h; simp at h
    · rw [if_neg hb] at h
      simp only [Except.ok.injEq, Prod.mk.injEq] at h
      obtain ⟨rfl, rfl, rfl⟩ := h
      exact ⟨rfl, h0, .inl ⟨rfl, hb, rfl⟩⟩
  · rw [Source.fetch_of_lt (by omega)] at h; simp at h

/-- A fault of the opcode field: its first byte, or the byte after the escape byte, lies past the end of memory. -/
theorem fetchOpcode_error {e : Byte} {src : Source} {a : Nat} {f : DecodeFault}
    (h : fetchOpcode e src a = .error f) :
    f = .oob a 1 ∧ src.size ≤ a ∨ f = .oob (a + 1) 1 ∧ src.size = a + 1 ∧ src.byte a = e := by
  unfold fetchOpcode at h
  by_cases h0 : a + 1 ≤ src.size
  · rw [Source.fetch_of_le h0] at h
    simp only [Source.le_one, ofNat_toNat_byte] at h
    by_cases hb : src.byte a = e
    · rw [if_pos hb] at h
      by_cases h1 : a + 1 + 1 ≤ src.size
      · rw [Source.fetch_of_le h1] at h; simp at h
      · rw [Source.fetch_of_lt (by omega)] at h
        simp only [Except.error.injEq] at h
        exact .inr ⟨h.symm, by omega, hb⟩
    · rw [if_neg hb] at h; simp at h
  · rw [Source.fetch_of_lt (by omega)] at h
    simp only [Except.error.injEq] at h
    exact .inl ⟨h.symm, by omega⟩

theorem fetchOpcode_one {e : Byte} {src : Source} {a : Nat} (h : a + 1 ≤ src.size) (hb : src.byte a ≠ e) :
    fetchOpcode e src a = .ok (BitVec.ofNat 16 (src.byte a).toNat, 1, a + 1) := by
  unfold fetchOpcode
  rw [Source.fetch_of_le h]
  simp only [Source.le_one, ofNat_toNat_byte, if_neg hb]

theorem fetchOpcode_two {e : Byte} {src : Source} {a : Nat} (h : a + 2 ≤ src.size) (hb : src.byte a = e) :
    fetchOpcode e src a = .ok (BitVec.ofNat 16 (e.toNat * 256 + (src.byte (a + 1)).toNat), 2, a + 2) := by
  unfold fetchOpcode
  rw [Source.fetch_of_le (by omega)]
  simp only [Source.le_one, ofNat_toNat_byte, if_pos hb]
  rw [Source.fetch_of_le (by omega)]
  simp only [Source.le_one, hb]

/-- The bounds an instruction's meaning checks for an opcode field of one or two bytes. -/
theorem checkOpcode_of_le {size a cw : Nat} (hcw : cw = 1 ∨ cw = 2) (h : a + cw ≤ size) :
    checkOpcode size a cw = .ok (a + cw) := by
  unfold checkOpcode
  rw [checkRead_eq_ok.2 ⟨by omega, rfl⟩]
  rcases hcw with rfl | rfl
  · rfl
  · simp only [if_true]; exact checkRead_eq_ok.2 ⟨by omega, rfl⟩

theorem checkOpcode_ok {size a cw p : Nat} (h : checkOpcode size a cw = .ok p) :
    a < p ∧ p ≤ size ∧ (cw = 2 ∧ p = a + 2 ∨ cw ≠ 2 ∧ p = a + 1) := by
  unfold checkOpcode at h
  cases h1 : checkRead size a 1 with
  | error f => rw [h1] at h; simp at h
  | ok q =>
    rw [h1] at h
    obtain ⟨hle, rfl⟩ := checkRead_eq_ok.1 h1
    simp only at h
    split at h
    · obtain ⟨hle', rfl⟩ := checkRead_eq_ok.1 h
      exact ⟨by omega, hle', .inl ⟨‹_›, by omega⟩⟩
    · simp only [Except.ok.injEq] at h; subst h
      exact ⟨by omega, hle, .inr ⟨‹_›, rfl⟩⟩

theorem checkOpcode_error {size a cw : Nat} {f : DecodeFault} (h : checkOpcode size a cw = .error f) :
    f = .oob a 1 ∧ size ≤ a ∨ f = .oob (a + 1) 1 ∧ size = a + 1 ∧ cw = 2 := by
  unfold checkOpcode at h
  cases h1 : checkRead size a 1 with
  | error g =>
    rw [h1] at h; simp only [Except.error.injEq] at h; subst h
    obtain ⟨hlt, rfl⟩ := checkRead_eq_error.1 h1
    exact .inl ⟨rfl, by omega⟩
  | ok q =>
    rw [h1] at h
    obtain ⟨hle, rfl⟩ := checkRead_eq_ok.1 h1
    simp only at h
    split at h
    · obtain ⟨hlt, rfl⟩ := checkRead_eq_error.1 h
      exact .inr ⟨rfl, by omega, ‹_›⟩
    · simp at h

theorem fetchOpcode_check {e : Byte} {src : Source} {a cw q : Nat} {cp : Codepoint}
    (h : fetchOpcode e src a = .ok (cp, cw, q)) : checkOpcode src.size a cw = .ok q := by
  obtain ⟨rfl, hle, hc⟩ := fetchOpcode_ok h
  exact checkOpcode_of_le (by rcases hc with ⟨rfl, -⟩ | ⟨rfl, -⟩ <;> simp) hle

/-! ### The table -/

/-- A row of the default table is the row of its instruction. -/
def rowSound (r : OpRow) : Bool :=
  r.cp == r.instr.codepoint && r.mnemonic == r.instr.mnemonic && r.tags == r.instr.tags &&
    decide (r.tags.length ≤ Config.maxOperands)

theorem rows_sound : opRows.all rowSound = true := by decide +kernel

theorem findRow_mem {cp : Codepoint} {r : OpRow} (h : findRow cp = some r) : r ∈ opRows ∧ r.cp = cp := by
  unfold findRow at h
  obtain ⟨rows, hm, hf⟩ := List.exists_of_findSome?_eq_some h
  refine ⟨List.mem_flatten.2 ⟨rows, hm, List.mem_of_find?_eq_some hf⟩, ?_⟩
  have := List.find?_some hf
  simpa using this

/-- The row found at a codepoint stands for an instruction with that codepoint, and has its mnemonic and tags. -/
theorem findRow_sound {cp : Codepoint} {r : OpRow} (h : findRow cp = some r) :
    r.cp = cp ∧ r.instr.codepoint = cp ∧ r.mnemonic = r.instr.mnemonic ∧ r.tags = r.instr.tags ∧
      r.tags.length ≤ Config.maxOperands := by
  obtain ⟨hm, hcp⟩ := findRow_mem h
  have := List.all_eq_true.1 rows_sound r hm
  simp only [rowSound, Bool.and_eq_true, beq_iff_eq, decide_eq_true_eq] at this
  obtain ⟨⟨⟨h1, h2⟩, h3⟩, h4⟩ := this
  exact ⟨hcp, by rw [← h1, hcp], h2, h3, h4⟩

/-- What the lookup selects, by OPTABLE (40_opcode_fetch R173 to R175). -/
theorem selectOpcode_spec (P : Params) (cp : Codepoint) (cw : Nat) :
    match selectOpcode P cp cw with
    | .known i => i.codepoint = cp ∧ opcodeWidth cp = cw ∧ P.optable cp = some ⟨i.mnemonic, i.tags.map Tag.code⟩ ∧
        i.tags.length ≤ Config.maxOperands
    | .otherRow cp' cw' d => cp' = cp ∧ cw' = cw ∧ P.optable cp = some d
    | .unknown cp' cw' => cp' = cp ∧ cw' = cw ∧ P.optable cp = none := by
  unfold selectOpcode Params.optable
  cases hp : P.patchEntry cp with
  | some e => cases e <;> exact ⟨rfl, rfl, rfl⟩
  | none =>
    cases hr : findRow cp with
    | none => exact ⟨rfl, rfl, rfl⟩
    | some r =>
      obtain ⟨h1, h2, h3, h4, h5⟩ := findRow_sound hr
      simp only
      by_cases hw : opcodeWidth r.cp = cw
      · rw [if_pos hw]
        exact ⟨h2, by rw [← h1]; exact hw, by simp [OpRow.descriptor, h3, h4], by rw [← h4]; exact h5⟩
      · rw [if_neg hw]; exact ⟨rfl, rfl, by simp⟩

/-! ### The instructions -/

/-- Every instruction's meaning is the shared operation with its own row. -/
theorem exec_eq (i : Instr) (s : State) :
    exec i s = .next (s.runInstr i.codepoint (opcodeWidth i.codepoint) i.mnemonic i.tags) := by
  cases i <;> rfl


/-- What decoding a row's operands can do: the record emitted, or a fault taken; nothing else. -/
theorem runRow_cases (s : State) (cp : Codepoint) (cw : Nat) (d : Descriptor) :
    (∃ p os q, checkOpcode s.params.memSize s.pc cw = .ok p ∧
      decodeOperands s.params.indexChainLimit s.source d.tags p = .ok (os, q) ∧
      s.runRow cp cw d = s.present q cp cw (some d) (operandRecordsAt p os)) ∨
    (∃ f, checkOpcode s.params.memSize s.pc cw = .error f ∧ s.runRow cp cw d = s.takeFault s.pc ⟨f, none⟩) ∨
    (∃ p f, checkOpcode s.params.memSize s.pc cw = .ok p ∧
      decodeOperands s.params.indexChainLimit s.source d.tags p = .error f ∧
      s.runRow cp cw d = s.takeFault s.pc ⟨f, some cp⟩) := by
  unfold State.runRow
  cases hc : checkOpcode s.params.memSize s.pc cw with
  | error f => exact .inr (.inl ⟨f, rfl, rfl⟩)
  | ok p =>
    simp only [resolveOperands_eq]
    cases hd : decodeOperands s.params.indexChainLimit s.source d.tags p with
    | error f => exact .inr (.inr ⟨p, f, rfl, hd, rfl⟩)
    | ok oq => obtain ⟨os, q⟩ := oq; exact .inl ⟨p, os, q, rfl, hd, rfl⟩

/-- The opcode phase and the instruction it selects, by OPTABLE alone: no descriptor, a descriptor, or a fault of the
opcode fetch. -/
theorem fetchAndRun_spec (s : State) :
    s.fetchAndRun = .next
      (match fetchOpcode s.params.escapeByte s.source s.pc with
      | .error f => s.takeFault s.pc ⟨f, none⟩
      | .ok (cp, cw, q) =>
        match s.params.optable cp with
        | none => s.present q cp cw none []
        | some d => s.runRow cp cw d) := by
  unfold State.fetchAndRun decodeOpcode
  cases hf : fetchOpcode s.params.escapeByte s.source s.pc with
  | error f => rfl
  | ok x =>
    obtain ⟨cp, cw, q⟩ := x
    have hck : checkOpcode s.params.memSize s.pc cw = .ok q := fetchOpcode_check hf
    have hs := selectOpcode_spec s.params cp cw
    simp only
    cases hsel : selectOpcode s.params cp cw with
    | known i =>
      rw [hsel] at hs
      obtain ⟨h1, h2, h3, -⟩ := hs
      simp only [h3]
      rw [exec_eq, h1, h2]
      rfl
    | otherRow cp' cw' d =>
      rw [hsel] at hs
      obtain ⟨rfl, rfl, h3⟩ := hs
      simp only [h3]
    | unknown cp' cw' =>
      rw [hsel] at hs
      obtain ⟨rfl, rfl, h3⟩ := hs
      simp only [h3]
      unfold State.runUnknown
      rw [hck]

/-! ### The step -/

/-- What a step of the engine can answer, phase by phase. -/
theorem engineStep_cases {s t : State} (h : s.engineStep = .next t) :
    ((s.phase = .idle ∨ s.phase = .done ∨ s.phase = .fault) ∧ t = s) ∨
    (s.phase = .fetchOpcode ∧ s.csegSize.toNat ≤ s.pc ∧ t = { s with phase := .done }) ∨
    (s.phase = .fetchOpcode ∧ s.pc < s.csegSize.toNat ∧ s.fetchAndRun = .next t) ∨
    (s.phase = .decodeOperands ∧ ∃ d, s.desc = some d ∧
      (d.tags[s.k]? = none ∧ t = { s with phase := .emit, out := some s.formRecord } ∨
        ∃ c, d.tags[s.k]? = some c ∧
          ((∃ f, resolveOperand s.params.indexChainLimit s.source c s.pc = .error f ∧
              t = s.takeFault s.start ⟨f, some s.cp⟩) ∨
            ∃ r p, resolveOperand s.params.indexChainLimit s.source c s.pc = .ok (r, p) ∧
              t = { s with pc := p, k := s.k + 1, ops := s.ops ++ [r] }))) ∨
    (s.phase = .emit ∧
      (s.out = none ∧ t = { s with out := some s.formRecord } ∨
        ∃ r, s.out = some r ∧ (s.ready = true ∧ t = s.accept r ∨ s.ready = false ∧ t = s))) := by
  unfold State.engineStep at h
  cases hp : s.phase <;> rw [hp] at h <;> simp only [Host.Outcome.next.injEq] at h
  case idle => exact .inl ⟨.inl rfl, h.symm⟩
  case done => exact .inl ⟨.inr (.inl rfl), h.symm⟩
  case fault => exact .inl ⟨.inr (.inr rfl), h.symm⟩
  case fetchOpcode =>
    by_cases hle : s.csegSize.toNat ≤ s.pc
    · rw [if_pos hle, Host.Outcome.next.injEq] at h
      exact .inr (.inl ⟨rfl, hle, h.symm⟩)
    · rw [if_neg hle] at h
      exact .inr (.inr (.inl ⟨rfl, by omega, h⟩))
  case decodeOperands =>
    refine .inr (.inr (.inr (.inl ⟨rfl, ?_⟩)))
    unfold State.operandStep at h
    cases hd : s.desc with
    | none => rw [hd] at h; simp at h
    | some d =>
      rw [hd] at h
      refine ⟨d, rfl, ?_⟩
      cases hk : d.tags[s.k]? with
      | none => simp only [hk, Host.Outcome.next.injEq] at h; exact .inl ⟨rfl, h.symm⟩
      | some c =>
        refine .inr ⟨c, rfl, ?_⟩
        simp only [hk] at h
        cases hr : resolveOperand s.params.indexChainLimit s.source c s.pc with
        | error f => rw [hr] at h; simp only [Host.Outcome.next.injEq] at h; exact .inl ⟨f, rfl, h.symm⟩
        | ok rp =>
          obtain ⟨r, p⟩ := rp
          rw [hr] at h; simp only [Host.Outcome.next.injEq] at h; exact .inr ⟨r, p, rfl, by rw [← h, hp]⟩
  case emit =>
    refine .inr (.inr (.inr (.inr ⟨rfl, ?_⟩)))
    unfold State.emitStep at h
    cases ho : s.out with
    | none => simp only [ho] at h; exact .inl ⟨rfl, by rw [← h, hp]⟩
    | some r =>
      rw [ho] at h
      refine .inr ⟨r, rfl, ?_⟩
      cases hr : s.ready
      · simp only [hr, Bool.false_eq_true, if_false] at h; exact .inr ⟨rfl, h.symm⟩
      · simp only [hr, if_true] at h; exact .inl ⟨rfl, h.symm⟩

/-- A step is a step of the engine, or one input served. -/
theorem step_cases {s t : State} (h : step s = .next t) :
    (s.inputs = [] ∧ s.engineStep = .next t) ∨
    ∃ e rest, s.inputs = e :: rest ∧
      (e = .engine ∧ ({ s with inputs := rest } : State).engineStep = .next t ∨
        e ≠ .engine ∧ t = ({ s with inputs := rest } : State).serve e) := by
  unfold step State.blockStep at h
  split at h
  · exact .inl ⟨by assumption, h⟩
  · exact .inr ⟨_, _, by assumption, .inl ⟨rfl, h⟩⟩
  · next e rest hne hin =>
    simp only [Host.Outcome.next.injEq] at h
    exact .inr ⟨e, rest, hin, .inr ⟨fun hc => hne hc, h.symm⟩⟩

theorem step_engine {s : State} (h : s.inputs = []) : step s = s.engineStep := by
  unfold step State.blockStep; rw [h]

/-- While RUNNING, an input other than reset changes LOAD_ERR and the consumer's line at most. -/
theorem serve_running {s : State} {e : Input} (hr : s.phase.running = true) (he : e ≠ .reset) :
    ∃ b r, s.serve e = { s with loadErr := b, ready := r } := by
  cases e with
  | engine => exact ⟨s.loadErr, s.ready, rfl⟩
  | load o bs => exact ⟨true, s.ready, by simp [State.serve, State.load, hr]⟩
  | write reg v => exact ⟨s.loadErr, s.ready, by cases reg <;> simp [State.serve, State.hostWrite, hr]⟩
  | consumer r => exact ⟨s.loadErr, r, rfl⟩
  | reset => exact absurd rfl he

theorem stepN_succ {n : Nat} {s t : State} (h : step s = .next t) : stepN (n + 1) s = stepN n t := by
  rw [stepN, h]

/-- One more step of a host core's run, by the outcome of the first step. -/
theorem run_succ (M : Host.Core) (n : Nat) (s : M.State) :
    M.run (n + 1) s = match M.step s with
      | .next t => M.run n t
      | .fault r => .fault r
      | .refused r => .refused r := rfl

/-- `stepN` is the host's run of this machine. -/
theorem stepN_eq_run (n : Nat) (s : State) : stepN n s = Host.Core.run Sys2Proof.core n s := by
  induction n generalizing s with
  | zero => rfl
  | succ n ih =>
    refine Eq.trans ?_ (run_succ Sys2Proof.core n s).symm
    have hc : Sys2Proof.core.step s = step s := rfl
    cases hs : step s with
    | next t => rw [hs] at hc; exact (stepN_succ hs).trans ((ih t).trans (by rw [hc]))
    | fault r => rw [hs] at hc; rw [stepN, hs, hc]; rfl
    | refused r => rw [hs] at hc; rw [stepN, hs, hc]; rfl

end Sys2Proof.Machine
end

