-- ==== Sys2Proof/Laws/PerInstr.lean ====
section
/-! SUPPORT. Statements made per instruction: one lemma per constructor of Instr. `OwnRow`: the default table,
looked up at an instruction's codepoint, has the instruction's own row; the row's tags are tags of the nine general
types but for a branch tag in the last place; the opcode field that the encoder writes is the codepoint's. -/
namespace Sys2Proof.Laws

/-- The default row of the instruction's codepoint is the instruction's own row, it is reached through the opcode
width that the codepoint has, and it is no escape byte by itself. -/
def OwnRow.Statement (i : Instr) : Prop :=
  findRow i.codepoint = some ⟨i.codepoint, i.mnemonic, i.tags, i⟩ ∧
  i.tags.length ≤ Config.maxOperands ∧
  (i.codepoint.toNat < 256 ∧ i.codepoint.toNat ≠ 0xFD ∧ encodeOpcode i.codepoint = [BitVec.ofNat 8 i.codepoint.toNat] ∨
    256 ≤ i.codepoint.toNat ∧ i.codepoint.toNat / 256 = 0xFD ∧
      encodeOpcode i.codepoint = [0xFD, BitVec.ofNat 8 i.codepoint.toNat])

theorem OwnRow.halt : OwnRow.Statement .halt := ⟨rfl, by decide, by decide⟩
theorem OwnRow.nop : OwnRow.Statement .nop := ⟨rfl, by decide, by decide⟩
theorem OwnRow.rei : OwnRow.Statement .rei := ⟨rfl, by decide, by decide⟩
theorem OwnRow.bpt : OwnRow.Statement .bpt := ⟨rfl, by decide, by decide⟩
theorem OwnRow.ret : OwnRow.Statement .ret := ⟨rfl, by decide, by decide⟩
theorem OwnRow.rsb : OwnRow.Statement .rsb := ⟨rfl, by decide, by decide⟩
theorem OwnRow.ldpctx : OwnRow.Statement .ldpctx := ⟨rfl, by decide, by decide⟩
theorem OwnRow.svpctx : OwnRow.Statement .svpctx := ⟨rfl, by decide, by decide⟩
theorem OwnRow.cvtps : OwnRow.Statement .cvtps := ⟨rfl, by decide, by decide⟩
theorem OwnRow.cvtsp : OwnRow.Statement .cvtsp := ⟨rfl, by decide, by decide⟩
theorem OwnRow.index : OwnRow.Statement .index := ⟨rfl, by decide, by decide⟩
theorem OwnRow.crc : OwnRow.Statement .crc := ⟨rfl, by decide, by decide⟩
theorem OwnRow.prober : OwnRow.Statement .prober := ⟨rfl, by decide, by decide⟩
theorem OwnRow.probew : OwnRow.Statement .probew := ⟨rfl, by decide, by decide⟩
theorem OwnRow.insque : OwnRow.Statement .insque := ⟨rfl, by decide, by decide⟩
theorem OwnRow.remque : OwnRow.Statement .remque := ⟨rfl, by decide, by decide⟩
theorem OwnRow.bsbb : OwnRow.Statement .bsbb := ⟨rfl, by decide, by decide⟩
theorem OwnRow.brb : OwnRow.Statement .brb := ⟨rfl, by decide, by decide⟩
theorem OwnRow.bneq : OwnRow.Statement .bneq := ⟨rfl, by decide, by decide⟩
theorem OwnRow.beql : OwnRow.Statement .beql := ⟨rfl, by decide, by decide⟩
theorem OwnRow.bgtr : OwnRow.Statement .bgtr := ⟨rfl, by decide, by decide⟩
theorem OwnRow.bleq : OwnRow.Statement .bleq := ⟨rfl, by decide, by decide⟩
theorem OwnRow.jsb : OwnRow.Statement .jsb := ⟨rfl, by decide, by decide⟩
theorem OwnRow.jmp : OwnRow.Statement .jmp := ⟨rfl, by decide, by decide⟩
theorem OwnRow.bgeq : OwnRow.Statement .bgeq := ⟨rfl, by decide, by decide⟩
theorem OwnRow.blss : OwnRow.Statement .blss := ⟨rfl, by decide, by decide⟩
theorem OwnRow.bgtru : OwnRow.Statement .bgtru := ⟨rfl, by decide, by decide⟩
theorem OwnRow.blequ : OwnRow.Statement .blequ := ⟨rfl, by decide, by decide⟩
theorem OwnRow.bvc : OwnRow.Statement .bvc := ⟨rfl, by decide, by decide⟩
theorem OwnRow.bvs : OwnRow.Statement .bvs := ⟨rfl, by decide, by decide⟩
theorem OwnRow.bgequ : OwnRow.Statement .bgequ := ⟨rfl, by decide, by decide⟩
theorem OwnRow.blssu : OwnRow.Statement .blssu := ⟨rfl, by decide, by decide⟩
theorem OwnRow.addp4 : OwnRow.Statement .addp4 := ⟨rfl, by decide, by decide⟩
theorem OwnRow.addp6 : OwnRow.Statement .addp6 := ⟨rfl, by decide, by decide⟩
theorem OwnRow.subp4 : OwnRow.Statement .subp4 := ⟨rfl, by decide, by decide⟩
theorem OwnRow.subp6 : OwnRow.Statement .subp6 := ⟨rfl, by decide, by decide⟩
theorem OwnRow.cvtpt : OwnRow.Statement .cvtpt := ⟨rfl, by decide, by decide⟩
theorem OwnRow.mulp : OwnRow.Statement .mulp := ⟨rfl, by decide, by decide⟩
theorem OwnRow.cvttp : OwnRow.Statement .cvttp := ⟨rfl, by decide, by decide⟩
theorem OwnRow.divp : OwnRow.Statement .divp := ⟨rfl, by decide, by decide⟩
theorem OwnRow.movc3 : OwnRow.Statement .movc3 := ⟨rfl, by decide, by decide⟩
theorem OwnRow.cmpc3 : OwnRow.Statement .cmpc3 := ⟨rfl, by decide, by decide⟩
theorem OwnRow.scanc : OwnRow.Statement .scanc := ⟨rfl, by decide, by decide⟩
theorem OwnRow.spanc : OwnRow.Statement .spanc := ⟨rfl, by decide, by decide⟩
theorem OwnRow.movc5 : OwnRow.Statement .movc5 := ⟨rfl, by decide, by decide⟩
theorem OwnRow.cmpc5 : OwnRow.Statement .cmpc5 := ⟨rfl, by decide, by decide⟩
theorem OwnRow.movtc : OwnRow.Statement .movtc := ⟨rfl, by decide, by decide⟩
theorem OwnRow.movtuc : OwnRow.Statement .movtuc := ⟨rfl, by decide, by decide⟩
theorem OwnRow.bsbw : OwnRow.Statement .bsbw := ⟨rfl, by decide, by decide⟩
theorem OwnRow.brw : OwnRow.Statement .brw := ⟨rfl, by decide, by decide⟩
theorem OwnRow.cvtwl : OwnRow.Statement .cvtwl := ⟨rfl, by decide, by decide⟩
theorem OwnRow.cvtwb : OwnRow.Statement .cvtwb := ⟨rfl, by decide, by decide⟩
theorem OwnRow.movp : OwnRow.Statement .movp := ⟨rfl, by decide, by decide⟩
theorem OwnRow.cmpp3 : OwnRow.Statement .cmpp3 := ⟨rfl, by decide, by decide⟩
theorem OwnRow.cvtpl : OwnRow.Statement .cvtpl := ⟨rfl, by decide, by decide⟩
theorem OwnRow.cmpp4 : OwnRow.Statement .cmpp4 := ⟨rfl, by decide, by decide⟩
theorem OwnRow.editpc : OwnRow.Statement .editpc := ⟨rfl, by decide, by decide⟩
theorem OwnRow.matchc : OwnRow.Statement .matchc := ⟨rfl, by decide, by decide⟩
theorem OwnRow.locc : OwnRow.Statement .locc := ⟨rfl, by decide, by decide⟩
theorem OwnRow.skpc : OwnRow.Statement .skpc := ⟨rfl, by decide, by decide⟩
theorem OwnRow.movzwl : OwnRow.Statement .movzwl := ⟨rfl, by decide, by decide⟩
theorem OwnRow.acbw : OwnRow.Statement .acbw := ⟨rfl, by decide, by decide⟩
theorem OwnRow.movaw : OwnRow.Statement .movaw := ⟨rfl, by decide, by decide⟩
theorem OwnRow.pushaw : OwnRow.Statement .pushaw := ⟨rfl, by decide, by decide⟩
theorem OwnRow.addf2 : OwnRow.Statement .addf2 := ⟨rfl, by decide, by decide⟩
theorem OwnRow.addf3 : OwnRow.Statement .addf3 := ⟨rfl, by decide, by decide⟩
theorem OwnRow.subf2 : OwnRow.Statement .subf2 := ⟨rfl, by decide, by decide⟩
theorem OwnRow.subf3 : OwnRow.Statement .subf3 := ⟨rfl, by decide, by decide⟩
theorem OwnRow.mulf2 : OwnRow.Statement .mulf2 := ⟨rfl, by decide, by decide⟩
theorem OwnRow.mulf3 : OwnRow.Statement .mulf3 := ⟨rfl, by decide, by decide⟩
theorem OwnRow.divf2 : OwnRow.Statement .divf2 := ⟨rfl, by decide, by decide⟩
theorem OwnRow.divf3 : OwnRow.Statement .divf3 := ⟨rfl, by decide, by decide⟩
theorem OwnRow.cvtfb : OwnRow.Statement .cvtfb := ⟨rfl, by decide, by decide⟩
theorem OwnRow.cvtfw : OwnRow.Statement .cvtfw := ⟨rfl, by decide, by decide⟩
theorem OwnRow.cvtfl : OwnRow.Statement .cvtfl := ⟨rfl, by decide, by decide⟩
theorem OwnRow.cvtrfl : OwnRow.Statement .cvtrfl := ⟨rfl, by decide, by decide⟩
theorem OwnRow.cvtbf : OwnRow.Statement .cvtbf := ⟨rfl, by decide, by decide⟩
theorem OwnRow.cvtwf : OwnRow.Statement .cvtwf := ⟨rfl, by decide, by decide⟩
theorem OwnRow.cvtlf : OwnRow.Statement .cvtlf := ⟨rfl, by decide, by decide⟩
theorem OwnRow.acbf : OwnRow.Statement .acbf := ⟨rfl, by decide, by decide⟩
theorem OwnRow.movf : OwnRow.Statement .movf := ⟨rfl, by decide, by decide⟩
theorem OwnRow.cmpf : OwnRow.Statement .cmpf := ⟨rfl, by decide, by decide⟩
theorem OwnRow.mnegf : OwnRow.Statement .mnegf := ⟨rfl, by decide, by decide⟩
theorem OwnRow.tstf : OwnRow.Statement .tstf := ⟨rfl, by decide, by decide⟩
theorem OwnRow.emodf : OwnRow.Statement .emodf := ⟨rfl, by decide, by decide⟩
theorem OwnRow.polyf : OwnRow.Statement .polyf := ⟨rfl, by decide, by decide⟩
theorem OwnRow.cvtfd : OwnRow.Statement .cvtfd := ⟨rfl, by decide, by decide⟩
theorem OwnRow.adawi : OwnRow.Statement .adawi := ⟨rfl, by decide, by decide⟩
theorem OwnRow.insqhi : OwnRow.Statement .insqhi := ⟨rfl, by decide, by decide⟩
theorem OwnRow.insqti : OwnRow.Statement .insqti := ⟨rfl, by decide, by decide⟩
theorem OwnRow.remqhi : OwnRow.Statement .remqhi := ⟨rfl, by decide, by decide⟩
theorem OwnRow.remqti : OwnRow.Statement .remqti := ⟨rfl, by decide, by decide⟩
theorem OwnRow.addd2 : OwnRow.Statement .addd2 := ⟨rfl, by decide, by decide⟩
theorem OwnRow.addd3 : OwnRow.Statement .addd3 := ⟨rfl, by decide, by decide⟩
theorem OwnRow.subd2 : OwnRow.Statement .subd2 := ⟨rfl, by decide, by decide⟩
theorem OwnRow.subd3 : OwnRow.Statement .subd3 := ⟨rfl, by decide, by decide⟩
theorem OwnRow.muld2 : OwnRow.Statement .muld2 := ⟨rfl, by decide, by decide⟩
theorem OwnRow.muld3 : OwnRow.Statement .muld3 := ⟨rfl, by decide, by decide⟩
theorem OwnRow.divd2 : OwnRow.Statement .divd2 := ⟨rfl, by decide, by decide⟩
theorem OwnRow.divd3 : OwnRow.Statement .divd3 := ⟨rfl, by decide, by decide⟩
theorem OwnRow.cvtdb : OwnRow.Statement .cvtdb := ⟨rfl, by decide, by decide⟩
theorem OwnRow.cvtdw : OwnRow.Statement .cvtdw := ⟨rfl, by decide, by decide⟩
theorem OwnRow.cvtdl : OwnRow.Statement .cvtdl := ⟨rfl, by decide, by decide⟩
theorem OwnRow.cvtrdl : OwnRow.Statement .cvtrdl := ⟨rfl, by decide, by decide⟩
theorem OwnRow.cvtbd : OwnRow.Statement .cvtbd := ⟨rfl, by decide, by decide⟩
theorem OwnRow.cvtwd : OwnRow.Statement .cvtwd := ⟨rfl, by decide, by decide⟩
theorem OwnRow.cvtld : OwnRow.Statement .cvtld := ⟨rfl, by decide, by decide⟩
theorem OwnRow.acbd : OwnRow.Statement .acbd := ⟨rfl, by decide, by decide⟩
theorem OwnRow.movd : OwnRow.Statement .movd := ⟨rfl, by decide, by decide⟩
theorem OwnRow.cmpd : OwnRow.Statement .cmpd := ⟨rfl, by decide, by decide⟩
theorem OwnRow.mnegd : OwnRow.Statement .mnegd := ⟨rfl, by decide, by decide⟩
theorem OwnRow.tstd : OwnRow.Statement .tstd := ⟨rfl, by decide, by decide⟩
theorem OwnRow.emodd : OwnRow.Statement .emodd := ⟨rfl, by decide, by decide⟩
theorem OwnRow.polyd : OwnRow.Statement .polyd := ⟨rfl, by decide, by decide⟩
theorem OwnRow.cvtdf : OwnRow.Statement .cvtdf := ⟨rfl, by decide, by decide⟩
theorem OwnRow.ashl : OwnRow.Statement .ashl := ⟨rfl, by decide, by decide⟩
theorem OwnRow.ashq : OwnRow.Statement .ashq := ⟨rfl, by decide, by decide⟩
theorem OwnRow.emul : OwnRow.Statement .emul := ⟨rfl, by decide, by decide⟩
theorem OwnRow.ediv : OwnRow.Statement .ediv := ⟨rfl, by decide, by decide⟩
theorem OwnRow.clrq : OwnRow.Statement .clrq := ⟨rfl, by decide, by decide⟩
theorem OwnRow.movq : OwnRow.Statement .movq := ⟨rfl, by decide, by decide⟩
theorem OwnRow.movaq : OwnRow.Statement .movaq := ⟨rfl, by decide, by decide⟩
theorem OwnRow.pushaq : OwnRow.Statement .pushaq := ⟨rfl, by decide, by decide⟩
theorem OwnRow.addb2 : OwnRow.Statement .addb2 := ⟨rfl, by decide, by decide⟩
theorem OwnRow.addb3 : OwnRow.Statement .addb3 := ⟨rfl, by decide, by decide⟩
theorem OwnRow.subb2 : OwnRow.Statement .subb2 := ⟨rfl, by decide, by decide⟩
theorem OwnRow.subb3 : OwnRow.Statement .subb3 := ⟨rfl, by decide, by decide⟩
theorem OwnRow.mulb2 : OwnRow.Statement .mulb2 := ⟨rfl, by decide, by decide⟩
theorem OwnRow.mulb3 : OwnRow.Statement .mulb3 := ⟨rfl, by decide, by decide⟩
theorem OwnRow.divb2 : OwnRow.Statement .divb2 := ⟨rfl, by decide, by decide⟩
theorem OwnRow.divb3 : OwnRow.Statement .divb3 := ⟨rfl, by decide, by decide⟩
theorem OwnRow.bisb2 : OwnRow.Statement .bisb2 := ⟨rfl, by decide, by decide⟩
theorem OwnRow.bisb3 : OwnRow.Statement .bisb3 := ⟨rfl, by decide, by decide⟩
theorem OwnRow.bicb2 : OwnRow.Statement .bicb2 := ⟨rfl, by decide, by decide⟩
theorem OwnRow.bicb3 : OwnRow.Statement .bicb3 := ⟨rfl, by decide, by decide⟩
theorem OwnRow.xorb2 : OwnRow.Statement .xorb2 := ⟨rfl, by decide, by decide⟩
theorem OwnRow.xorb3 : OwnRow.Statement .xorb3 := ⟨rfl, by decide, by decide⟩
theorem OwnRow.mnegb : OwnRow.Statement .mnegb := ⟨rfl, by decide, by decide⟩
theorem OwnRow.caseb : OwnRow.Statement .caseb := ⟨rfl, by decide, by decide⟩
theorem OwnRow.movb : OwnRow.Statement .movb := ⟨rfl, by decide, by decide⟩
theorem OwnRow.cmpb : OwnRow.Statement .cmpb := ⟨rfl, by decide, by decide⟩
theorem OwnRow.mcomb : OwnRow.Statement .mcomb := ⟨rfl, by decide, by decide⟩
theorem OwnRow.bitb : OwnRow.Statement .bitb := ⟨rfl, by decide, by decide⟩
theorem OwnRow.clrb : OwnRow.Statement .clrb := ⟨rfl, by decide, by decide⟩
theorem OwnRow.tstb : OwnRow.Statement .tstb := ⟨rfl, by decide, by decide⟩
theorem OwnRow.incb : OwnRow.Statement .incb := ⟨rfl, by decide, by decide⟩
theorem OwnRow.decb : OwnRow.Statement .decb := ⟨rfl, by decide, by decide⟩
theorem OwnRow.cvtbl : OwnRow.Statement .cvtbl := ⟨rfl, by decide, by decide⟩
theorem OwnRow.cvtbw : OwnRow.Statement .cvtbw := ⟨rfl, by decide, by decide⟩
theorem OwnRow.movzbl : OwnRow.Statement .movzbl := ⟨rfl, by decide, by decide⟩
theorem OwnRow.movzbw : OwnRow.Statement .movzbw := ⟨rfl, by decide, by decide⟩
theorem OwnRow.rotl : OwnRow.Statement .rotl := ⟨rfl, by decide, by decide⟩
theorem OwnRow.acbb : OwnRow.Statement .acbb := ⟨rfl, by decide, by decide⟩
theorem OwnRow.movab : OwnRow.Statement .movab := ⟨rfl, by decide, by decide⟩
theorem OwnRow.pushab : OwnRow.Statement .pushab := ⟨rfl, by decide, by decide⟩
theorem OwnRow.addw2 : OwnRow.Statement .addw2 := ⟨rfl, by decide, by decide⟩
theorem OwnRow.addw3 : OwnRow.Statement .addw3 := ⟨rfl, by decide, by decide⟩
theorem OwnRow.subw2 : OwnRow.Statement .subw2 := ⟨rfl, by decide, by decide⟩
theorem OwnRow.subw3 : OwnRow.Statement .subw3 := ⟨rfl, by decide, by decide⟩
theorem OwnRow.mulw2 : OwnRow.Statement .mulw2 := ⟨rfl, by decide, by decide⟩
theorem OwnRow.mulw3 : OwnRow.Statement .mulw3 := ⟨rfl, by decide, by decide⟩
theorem OwnRow.divw2 : OwnRow.Statement .divw2 := ⟨rfl, by decide, by decide⟩
theorem OwnRow.divw3 : OwnRow.Statement .divw3 := ⟨rfl, by decide, by decide⟩
theorem OwnRow.bisw2 : OwnRow.Statement .bisw2 := ⟨rfl, by decide, by decide⟩
theorem OwnRow.bisw3 : OwnRow.Statement .bisw3 := ⟨rfl, by decide, by decide⟩
theorem OwnRow.bicw2 : OwnRow.Statement .bicw2 := ⟨rfl, by decide, by decide⟩
theorem OwnRow.bicw3 : OwnRow.Statement .bicw3 := ⟨rfl, by decide, by decide⟩
theorem OwnRow.xorw2 : OwnRow.Statement .xorw2 := ⟨rfl, by decide, by decide⟩
theorem OwnRow.xorw3 : OwnRow.Statement .xorw3 := ⟨rfl, by decide, by decide⟩
theorem OwnRow.mnegw : OwnRow.Statement .mnegw := ⟨rfl, by decide, by decide⟩
theorem OwnRow.casew : OwnRow.Statement .casew := ⟨rfl, by decide, by decide⟩
theorem OwnRow.movw : OwnRow.Statement .movw := ⟨rfl, by decide, by decide⟩
theorem OwnRow.cmpw : OwnRow.Statement .cmpw := ⟨rfl, by decide, by decide⟩
theorem OwnRow.mcomw : OwnRow.Statement .mcomw := ⟨rfl, by decide, by decide⟩
theorem OwnRow.bitw : OwnRow.Statement .bitw := ⟨rfl, by decide, by decide⟩
theorem OwnRow.clrw : OwnRow.Statement .clrw := ⟨rfl, by decide, by decide⟩
theorem OwnRow.tstw : OwnRow.Statement .tstw := ⟨rfl, by decide, by decide⟩
theorem OwnRow.incw : OwnRow.Statement .incw := ⟨rfl, by decide, by decide⟩
theorem OwnRow.decw : OwnRow.Statement .decw := ⟨rfl, by decide, by decide⟩
theorem OwnRow.bispsw : OwnRow.Statement .bispsw := ⟨rfl, by decide, by decide⟩
theorem OwnRow.bicpsw : OwnRow.Statement .bicpsw := ⟨rfl, by decide, by decide⟩
theorem OwnRow.popr : OwnRow.Statement .popr := ⟨rfl, by decide, by decide⟩
theorem OwnRow.pushr : OwnRow.Statement .pushr := ⟨rfl, by decide, by decide⟩
theorem OwnRow.chmk : OwnRow.Statement .chmk := ⟨rfl, by decide, by decide⟩
theorem OwnRow.chme : OwnRow.Statement .chme := ⟨rfl, by decide, by decide⟩
theorem OwnRow.chms : OwnRow.Statement .chms := ⟨rfl, by decide, by decide⟩
theorem OwnRow.chmu : OwnRow.Statement .chmu := ⟨rfl, by decide, by decide⟩
theorem OwnRow.addl2 : OwnRow.Statement .addl2 := ⟨rfl, by decide, by decide⟩
theorem OwnRow.addl3 : OwnRow.Statement .addl3 := ⟨rfl, by decide, by decide⟩
theorem OwnRow.subl2 : OwnRow.Statement .subl2 := ⟨rfl, by decide, by decide⟩
theorem OwnRow.subl3 : OwnRow.Statement .subl3 := ⟨rfl, by decide, by decide⟩
theorem OwnRow.mull2 : OwnRow.Statement .mull2 := ⟨rfl, by decide, by decide⟩
theorem OwnRow.mull3 : OwnRow.Statement .mull3 := ⟨rfl, by decide, by decide⟩
theorem OwnRow.divl2 : OwnRow.Statement .divl2 := ⟨rfl, by decide, by decide⟩
theorem OwnRow.divl3 : OwnRow.Statement .divl3 := ⟨rfl, by decide, by decide⟩
theorem OwnRow.bisl2 : OwnRow.Statement .bisl2 := ⟨rfl, by decide, by decide⟩
theorem OwnRow.bisl3 : OwnRow.Statement .bisl3 := ⟨rfl, by decide, by decide⟩
theorem OwnRow.bicl2 : OwnRow.Statement .bicl2 := ⟨rfl, by decide, by decide⟩
theorem OwnRow.bicl3 : OwnRow.Statement .bicl3 := ⟨rfl, by decide, by decide⟩
theorem OwnRow.xorl2 : OwnRow.Statement .xorl2 := ⟨rfl, by decide, by decide⟩
theorem OwnRow.xorl3 : OwnRow.Statement .xorl3 := ⟨rfl, by decide, by decide⟩
theorem OwnRow.mnegl : OwnRow.Statement .mnegl := ⟨rfl, by decide, by decide⟩
theorem OwnRow.casel : OwnRow.Statement .casel := ⟨rfl, by decide, by decide⟩
theorem OwnRow.movl : OwnRow.Statement .movl := ⟨rfl, by decide, by decide⟩
theorem OwnRow.cmpl : OwnRow.Statement .cmpl := ⟨rfl, by decide, by decide⟩
theorem OwnRow.mcoml : OwnRow.Statement .mcoml := ⟨rfl, by decide, by decide⟩
theorem OwnRow.bitl : OwnRow.Statement .bitl := ⟨rfl, by decide, by decide⟩
theorem OwnRow.clrl : OwnRow.Statement .clrl := ⟨rfl, by decide, by decide⟩
theorem OwnRow.tstl : OwnRow.Statement .tstl := ⟨rfl, by decide, by decide⟩
theorem OwnRow.incl : OwnRow.Statement .incl := ⟨rfl, by decide, by decide⟩
theorem OwnRow.decl : OwnRow.Statement .decl := ⟨rfl, by decide, by decide⟩
theorem OwnRow.adwc : OwnRow.Statement .adwc := ⟨rfl, by decide, by decide⟩
theorem OwnRow.sbwc : OwnRow.Statement .sbwc := ⟨rfl, by decide, by decide⟩
theorem OwnRow.mtpr : OwnRow.Statement .mtpr := ⟨rfl, by decide, by decide⟩
theorem OwnRow.mfpr : OwnRow.Statement .mfpr := ⟨rfl, by decide, by decide⟩
theorem OwnRow.movpsl : OwnRow.Statement .movpsl := ⟨rfl, by decide, by decide⟩
theorem OwnRow.pushl : OwnRow.Statement .pushl := ⟨rfl, by decide, by decide⟩
theorem OwnRow.moval : OwnRow.Statement .moval := ⟨rfl, by decide, by decide⟩
theorem OwnRow.pushal : OwnRow.Statement .pushal := ⟨rfl, by decide, by decide⟩
theorem OwnRow.bbs : OwnRow.Statement .bbs := ⟨rfl, by decide, by decide⟩
theorem OwnRow.bbc : OwnRow.Statement .bbc := ⟨rfl, by decide, by decide⟩
theorem OwnRow.bbss : OwnRow.Statement .bbss := ⟨rfl, by decide, by decide⟩
theorem OwnRow.bbcs : OwnRow.Statement .bbcs := ⟨rfl, by decide, by decide⟩
theorem OwnRow.bbsc : OwnRow.Statement .bbsc := ⟨rfl, by decide, by decide⟩
theorem OwnRow.bbcc : OwnRow.Statement .bbcc := ⟨rfl, by decide, by decide⟩
theorem OwnRow.bbssi : OwnRow.Statement .bbssi := ⟨rfl, by decide, by decide⟩
theorem OwnRow.bbcci : OwnRow.Statement .bbcci := ⟨rfl, by decide, by decide⟩
theorem OwnRow.blbs : OwnRow.Statement .blbs := ⟨rfl, by decide, by decide⟩
theorem OwnRow.blbc : OwnRow.Statement .blbc := ⟨rfl, by decide, by decide⟩
theorem OwnRow.ffs : OwnRow.Statement .ffs := ⟨rfl, by decide, by decide⟩
theorem OwnRow.ffc : OwnRow.Statement .ffc := ⟨rfl, by decide, by decide⟩
theorem OwnRow.cmpv : OwnRow.Statement .cmpv := ⟨rfl, by decide, by decide⟩
theorem OwnRow.cmpzv : OwnRow.Statement .cmpzv := ⟨rfl, by decide, by decide⟩
theorem OwnRow.extv : OwnRow.Statement .extv := ⟨rfl, by decide, by decide⟩
theorem OwnRow.extzv : OwnRow.Statement .extzv := ⟨rfl, by decide, by decide⟩
theorem OwnRow.insv : OwnRow.Statement .insv := ⟨rfl, by decide, by decide⟩
theorem OwnRow.acbl : OwnRow.Statement .acbl := ⟨rfl, by decide, by decide⟩
theorem OwnRow.aoblss : OwnRow.Statement .aoblss := ⟨rfl, by decide, by decide⟩
theorem OwnRow.aobleq : OwnRow.Statement .aobleq := ⟨rfl, by decide, by decide⟩
theorem OwnRow.sobgeq : OwnRow.Statement .sobgeq := ⟨rfl, by decide, by decide⟩
theorem OwnRow.sobgtr : OwnRow.Statement .sobgtr := ⟨rfl, by decide, by decide⟩
theorem OwnRow.cvtlb : OwnRow.Statement .cvtlb := ⟨rfl, by decide, by decide⟩
theorem OwnRow.cvtlw : OwnRow.Statement .cvtlw := ⟨rfl, by decide, by decide⟩
theorem OwnRow.ashp : OwnRow.Statement .ashp := ⟨rfl, by decide, by decide⟩
theorem OwnRow.cvtlp : OwnRow.Statement .cvtlp := ⟨rfl, by decide, by decide⟩
theorem OwnRow.callg : OwnRow.Statement .callg := ⟨rfl, by decide, by decide⟩
theorem OwnRow.calls : OwnRow.Statement .calls := ⟨rfl, by decide, by decide⟩
theorem OwnRow.xfc : OwnRow.Statement .xfc := ⟨rfl, by decide, by decide⟩
theorem OwnRow.cvtdh : OwnRow.Statement .cvtdh := ⟨rfl, by decide, by decide⟩
theorem OwnRow.cvtgf : OwnRow.Statement .cvtgf := ⟨rfl, by decide, by decide⟩
theorem OwnRow.addg2 : OwnRow.Statement .addg2 := ⟨rfl, by decide, by decide⟩
theorem OwnRow.addg3 : OwnRow.Statement .addg3 := ⟨rfl, by decide, by decide⟩
theorem OwnRow.subg2 : OwnRow.Statement .subg2 := ⟨rfl, by decide, by decide⟩
theorem OwnRow.subg3 : OwnRow.Statement .subg3 := ⟨rfl, by decide, by decide⟩
theorem OwnRow.mulg2 : OwnRow.Statement .mulg2 := ⟨rfl, by decide, by decide⟩
theorem OwnRow.mulg3 : OwnRow.Statement .mulg3 := ⟨rfl, by decide, by decide⟩
theorem OwnRow.divg2 : OwnRow.Statement .divg2 := ⟨rfl, by decide, by decide⟩
theorem OwnRow.divg3 : OwnRow.Statement .divg3 := ⟨rfl, by decide, by decide⟩
theorem OwnRow.cvtgb : OwnRow.Statement .cvtgb := ⟨rfl, by decide, by decide⟩
theorem OwnRow.cvtgw : OwnRow.Statement .cvtgw := ⟨rfl, by decide, by decide⟩
theorem OwnRow.cvtgl : OwnRow.Statement .cvtgl := ⟨rfl, by decide, by decide⟩
theorem OwnRow.cvtrgl : OwnRow.Statement .cvtrgl := ⟨rfl, by decide, by decide⟩
theorem OwnRow.cvtbg : OwnRow.Statement .cvtbg := ⟨rfl, by decide, by decide⟩
theorem OwnRow.cvtwg : OwnRow.Statement .cvtwg := ⟨rfl, by decide, by decide⟩
theorem OwnRow.cvtlg : OwnRow.Statement .cvtlg := ⟨rfl, by decide, by decide⟩
theorem OwnRow.acbg : OwnRow.Statement .acbg := ⟨rfl, by decide, by decide⟩
theorem OwnRow.movg : OwnRow.Statement .movg := ⟨rfl, by decide, by decide⟩
theorem OwnRow.cmpg : OwnRow.Statement .cmpg := ⟨rfl, by decide, by decide⟩
theorem OwnRow.mnegg : OwnRow.Statement .mnegg := ⟨rfl, by decide, by decide⟩
theorem OwnRow.tstg : OwnRow.Statement .tstg := ⟨rfl, by decide, by decide⟩
theorem OwnRow.emodg : OwnRow.Statement .emodg := ⟨rfl, by decide, by decide⟩
theorem OwnRow.polyg : OwnRow.Statement .polyg := ⟨rfl, by decide, by decide⟩
theorem OwnRow.cvtgh : OwnRow.Statement .cvtgh := ⟨rfl, by decide, by decide⟩
theorem OwnRow.addh2 : OwnRow.Statement .addh2 := ⟨rfl, by decide, by decide⟩
theorem OwnRow.addh3 : OwnRow.Statement .addh3 := ⟨rfl, by decide, by decide⟩
theorem OwnRow.subh2 : OwnRow.Statement .subh2 := ⟨rfl, by decide, by decide⟩
theorem OwnRow.subh3 : OwnRow.Statement .subh3 := ⟨rfl, by decide, by decide⟩
theorem OwnRow.mulh2 : OwnRow.Statement .mulh2 := ⟨rfl, by decide, by decide⟩
theorem OwnRow.mulh3 : OwnRow.Statement .mulh3 := ⟨rfl, by decide, by decide⟩
theorem OwnRow.divh2 : OwnRow.Statement .divh2 := ⟨rfl, by decide, by decide⟩
theorem OwnRow.divh3 : OwnRow.Statement .divh3 := ⟨rfl, by decide, by decide⟩
theorem OwnRow.cvthb : OwnRow.Statement .cvthb := ⟨rfl, by decide, by decide⟩
theorem OwnRow.cvthw : OwnRow.Statement .cvthw := ⟨rfl, by decide, by decide⟩
theorem OwnRow.cvthl : OwnRow.Statement .cvthl := ⟨rfl, by decide, by decide⟩
theorem OwnRow.cvtrhl : OwnRow.Statement .cvtrhl := ⟨rfl, by decide, by decide⟩
theorem OwnRow.cvtbh : OwnRow.Statement .cvtbh := ⟨rfl, by decide, by decide⟩
theorem OwnRow.cvtwh : OwnRow.Statement .cvtwh := ⟨rfl, by decide, by decide⟩
theorem OwnRow.cvtlh : OwnRow.Statement .cvtlh := ⟨rfl, by decide, by decide⟩
theorem OwnRow.acbh : OwnRow.Statement .acbh := ⟨rfl, by decide, by decide⟩
theorem OwnRow.movh : OwnRow.Statement .movh := ⟨rfl, by decide, by decide⟩
theorem OwnRow.cmph : OwnRow.Statement .cmph := ⟨rfl, by decide, by decide⟩
theorem OwnRow.mnegh : OwnRow.Statement .mnegh := ⟨rfl, by decide, by decide⟩
theorem OwnRow.tsth : OwnRow.Statement .tsth := ⟨rfl, by decide, by decide⟩
theorem OwnRow.emodh : OwnRow.Statement .emodh := ⟨rfl, by decide, by decide⟩
theorem OwnRow.polyh : OwnRow.Statement .polyh := ⟨rfl, by decide, by decide⟩
theorem OwnRow.cvthg : OwnRow.Statement .cvthg := ⟨rfl, by decide, by decide⟩
theorem OwnRow.clro : OwnRow.Statement .clro := ⟨rfl, by decide, by decide⟩
theorem OwnRow.movo : OwnRow.Statement .movo := ⟨rfl, by decide, by decide⟩
theorem OwnRow.movao : OwnRow.Statement .movao := ⟨rfl, by decide, by decide⟩
theorem OwnRow.pushao : OwnRow.Statement .pushao := ⟨rfl, by decide, by decide⟩
theorem OwnRow.cvtfh : OwnRow.Statement .cvtfh := ⟨rfl, by decide, by decide⟩
theorem OwnRow.cvtfg : OwnRow.Statement .cvtfg := ⟨rfl, by decide, by decide⟩
theorem OwnRow.cvthf : OwnRow.Statement .cvthf := ⟨rfl, by decide, by decide⟩
theorem OwnRow.cvthd : OwnRow.Statement .cvthd := ⟨rfl, by decide, by decide⟩

end Sys2Proof.Laws
end

