-- ==== Sys2Proof/Tests/Slice0.lean ====
section
/-! SUPPORT. Tests: the refusals of wellFormed, opcode words written out from the spec's encodings, vectors of
95_test_vectors.md run for one step, and for each statement with hypotheses a state and operands that meet them. -/
set_option Elab.async false
namespace Sys2Proof.Tests
open Sys2Proof Sys2Proof.Machine

/-! ### Small states -/

/-- The default parameters with a memory of `n` bytes. -/
def size (n : Nat) : Params := { Config.defaultParams with memSize := n }

/-- The bytes at address 0 and the engine about to fetch there; CSEG_SIZE is their number. -/
def fetching (P : Params) (bs : List Byte) : State :=
  { State.initial P with
    mem := Memory.zero.writeBytes 0 bs, csegSize := BitVec.ofNat 32 bs.length, phase := .fetchOpcode }

/-- The next state of a step, if it has one. -/
def after (s : State) : Option State :=
  match step s with
  | .next t => some t
  | _ => none

/-- One step over these bytes alone in memory emits a record of this text that ends at this address. -/
def emits (v : List Byte × String × Nat) : Bool :=
  match after (fetching (size v.1.length) v.1) with
  | some t => t.out.any (fun r => r.start == 0 && r.stop == v.2.2 && r.bytes == v.1.take v.2.2 &&
      String.ofList (renderInstr r) == v.2.1) && t.phase == .emit
  | none => false

/-- The fault registers after one step that ends in FAULT. -/
def faultOf (s : State) : Option FaultRegs :=
  match after s with
  | some t => if t.phase = .fault then some t.faultRegs else none
  | none => none

/-- The lines of the record after one step. -/
def linesOf (s : State) : Option (List String) := (after s).bind (fun t => t.out.map listing)

/-! ### What wellFormed refuses, one ill-formed term for each check -/

theorem test_refuses_autoincrement_of_pc : Specifier.wellFormed .long (.autoincrement 15) = false := by decide
theorem test_refuses_autoincrementDeferred_of_pc :
    Specifier.wellFormed .long (.autoincrementDeferred 15) = false := by decide
theorem test_refuses_displacement_of_pc :
    Specifier.wellFormed .long (.displacement 15 (.byte 0) false) = false := by decide
theorem test_refuses_wide_immediate : Specifier.wellFormed .byte (.immediate 256) = false := by decide
theorem test_refuses_bad_base : Specifier.wellFormed .byte (.indexed 1 (.immediate 256)) = false := by decide
theorem test_refuses_specifier_under_branch_tag :
    Operand.wellFormed (.general .bdisp8 (.register 1)) = false := by decide
theorem test_refuses_missing_operand : AsmInstr.wellFormed ⟨.movl, [.general .long (.register 0)]⟩ = false := by decide
theorem test_refuses_other_tag : AsmInstr.wellFormed ⟨.brb, [.branch16 0]⟩ = false := by decide
theorem test_refuses_ill_formed_operand :
    AsmInstr.wellFormed ⟨.tstl, [.general .long (.autoincrement 15)]⟩ = false := by decide
theorem test_refuses_chain_past_limit :
    AsmInstr.withinChainLimit (some 1) ⟨.tstl, [.general .long (.indexed 1 (.indexed 2 (.register 3)))]⟩ = false := by
  decide
theorem test_accepts_immediate_255 : Specifier.wellFormed .byte (.immediate 255) = true := by decide

/-! ### Opcode words written out from 30_encoding R121 and the tables of 44, 45 and 46, one or more for each family -/

theorem test_word_rei : decodeTableWord 8 0b00000010 = some .rei := by decide +kernel
theorem test_word_crc : decodeTableWord 8 0b00001011 = some .crc := by decide +kernel
theorem test_word_blssu : decodeTableWord 8 0b00011111 = some .blssu := by decide +kernel
theorem test_word_movtuc : decodeTableWord 8 0b00101111 = some .movtuc := by decide +kernel
theorem test_word_acbw : decodeTableWord 8 0b00111101 = some .acbw := by decide +kernel
theorem test_word_emodf : decodeTableWord 8 0b01010100 = some .emodf := by decide +kernel
theorem test_word_insqhi : decodeTableWord 8 0b01011100 = some .insqhi := by decide +kernel
theorem test_word_polyd : decodeTableWord 8 0b01110101 = some .polyd := by decide +kernel
theorem test_word_ashq : decodeTableWord 8 0b01111001 = some .ashq := by decide +kernel
theorem test_word_caseb : decodeTableWord 8 0b10001111 = some .caseb := by decide +kernel
theorem test_word_chmu : decodeTableWord 8 0b10111111 = some .chmu := by decide +kernel
theorem test_word_mtpr : decodeTableWord 8 0b11011010 = some .mtpr := by decide +kernel
theorem test_word_xfc : decodeTableWord 8 0b11111100 = some .xfc := by decide +kernel
theorem test_word_cvtdh : decodeTableWord 16 0b1111110100110010 = some .cvtdh := by decide +kernel
theorem test_word_cvtgf : decodeTableWord 16 0b1111110100110011 = some .cvtgf := by decide +kernel
theorem test_word_emodg : decodeTableWord 16 0b1111110101010100 = some .emodg := by decide +kernel
theorem test_word_addh2 : decodeTableWord 16 0b1111110101100000 = some .addh2 := by decide +kernel
theorem test_word_movo : decodeTableWord 16 0b1111110101111101 = some .movo := by decide +kernel
theorem test_word_cvtfg : decodeTableWord 16 0b1111110110011001 = some .cvtfg := by decide +kernel
theorem test_word_cvthd : decodeTableWord 16 0b1111110111110111 = some .cvthd := by decide +kernel
/-- Codepoints with no row: 0x57, the escape byte twice, 0xFE as a first byte (40_opcode_fetch R175, R177, R178). -/
theorem test_words_without_row :
    [decodeTableWord 8 0x57, decodeTableWord 16 0xFDFD, decodeTableWord 8 0xFE] = [none, none, none] := by decide +kernel

/-- The table word placed at the fetch address runs as the first instruction after reset. -/
theorem test_withFetchWord_movl : linesOf (State.reset.withFetchWord 8 0xD0) =
    some ["00000000: d0 00 00     movl S^#0,S^#0"] := by decide +kernel
theorem test_withFetchWord_movo : linesOf (State.reset.withFetchWord 16 0xFD7D) =
    some ["00000000: fd 7d 00 00  movo S^#0,S^#0"] := by decide +kernel

/-! ### Vectors of 95_test_vectors.md, one step each -/

/-- M1 to M13 but for M7: short literals, index chains, register classes, immediates. -/
theorem test_vectors_modes_a : [
    ([0xD0, 0x00, 0x50], "movl S^#0,r0", 3), ([0xD0, 0x3F, 0x50], "movl S^#63,r0", 3),
    ([0x50, 0x05, 0x50], "movf S^#5:f,r0", 3), ([0x7D, 0x3F, 0x50], "movq S^#63,r0", 3),
    ([0xD0, 0x45, 0x50, 0x51], "movl r0[r5],r1", 4), ([0xD0, 0x41, 0x42, 0x53, 0x50], "movl r3[r2][r1],r0", 5),
    ([0xD0, 0x4E, 0x8F, 0x78, 0x56, 0x34, 0x12, 0x50], "movl I^#0x12345678[sp],r0", 8),
    ([0xD0, 0x5E, 0x5F], "movl sp,pc", 3), ([0xD0, 0x6F, 0x7F], "movl (pc),-(pc)", 3),
    ([0xD0, 0x8E, 0x81], "movl (sp)+,(r1)+", 3),
    ([0xD0, 0x8F, 0x2A, 0x00, 0x00, 0x00, 0x50], "movl I^#0x0000002a,r0", 7)].all emits = true := by decide +kernel

/-- M14 to M21 but for M17: immediates of other widths, absolute. -/
theorem test_vectors_modes_b : [
    ([0x90, 0x8F, 0xFF, 0x50], "movb I^#0xff,r0", 4), ([0xB0, 0x8F, 0x34, 0x12, 0x50], "movw I^#0x1234,r0", 5),
    ([0x7D, 0x8F, 0x01, 0x00, 0x00, 0x00, 0x00, 0x00, 0x00, 0x80, 0x50], "movq I^#0x8000000000000001,r0", 11),
    ([0x50, 0x8F, 0x80, 0x40, 0x00, 0x00, 0x50], "movf I^#0x00004080:f,r0", 7),
    ([0xD0, 0x92, 0x50], "movl @(r2)+,r0", 3), ([0xD0, 0x9F, 0x00, 0x10, 0x00, 0x00, 0x50], "movl @#0x1000,r0", 7),
    ([0x7D, 0x9F, 0x00, 0x10, 0x00, 0x00, 0x50], "movq @#0x1000,r0", 7)].all emits = true := by decide +kernel

/-- M22 to M36: displacements and PC-relative operands, plain and deferred, at the ends of their ranges. -/
theorem test_vectors_modes_c : [
    ([0xD0, 0xA1, 0xFC, 0x50], "movl 0xfffffffc(r1),r0", 4), ([0xD0, 0xA1, 0x7F, 0x50], "movl 0x7f(r1),r0", 4),
    ([0xD0, 0xC2, 0x00, 0x80, 0x50], "movl 0xffff8000(r2),r0", 5),
    ([0xD0, 0xE3, 0x78, 0x56, 0x34, 0x12, 0x50], "movl 0x12345678(r3),r0", 7),
    ([0xD0, 0xB1, 0x04, 0x50], "movl @0x4(r1),r0", 4), ([0xD0, 0xDE, 0x00, 0x01, 0x50], "movl @0x100(sp),r0", 5),
    ([0xD0, 0xFE, 0x00, 0x00, 0x00, 0x80, 0x50], "movl @0x80000000(sp),r0", 7),
    ([0xD0, 0xAF, 0xFF, 0x50], "movl 0x2,r0", 4), ([0xD0, 0x50, 0xAF, 0xFF], "movl r0,0x3", 4),
    ([0xD0, 0xCF, 0xFC, 0xFF, 0x50], "movl 0x0,r0", 5),
    ([0xD0, 0xEF, 0xFF, 0xFF, 0xFF, 0x7F, 0x50], "movl 0x80000005,r0", 7),
    ([0xD0, 0xBF, 0x02, 0x50], "movl @0x5,r0", 4), ([0xD0, 0xFF, 0x00, 0x00, 0x00, 0x00, 0x50], "movl @0x6,r0", 7),
    ([0xD0, 0x45, 0xAF, 0x00, 0x50], "movl 0x4[r5],r0", 5)].all emits = true := by decide +kernel

/-- B1 to B11: branch displacements. -/
theorem test_vectors_branches : [
    ([0x11, 0xFE], "brb 0x0", 2), ([0x11, 0x7F], "brb 0x81", 2), ([0x11, 0x80], "brb 0xffffff82", 2),
    ([0x31, 0x00, 0x80], "brw 0xffff8003", 3), ([0x31, 0xFF, 0x7F], "brw 0x8002", 3),
    ([0xE0, 0x01, 0x50, 0xFD], "bbs S^#1,r0,0x1", 4), ([0xF5, 0x51, 0xFD], "sobgtr r1,0x0", 3),
    ([0x3D, 0x51, 0x52, 0x53, 0xFF, 0x7F], "acbw r1,r2,r3,0x8005", 6),
    ([0x17, 0xAF, 0x80], "jmp 0xffffff83", 3)].all emits = true := by decide +kernel

/-- O3, O5 to O8, O10 and F-vectors of several families. -/
theorem test_vectors_families : [
    ([0x57], ".word 0x57", 1), ([0xFD, 0x00], ".word 0xfd00", 2), ([0xFD, 0xFD], ".word 0xfdfd", 2),
    ([0xFD, 0x7D, 0x50, 0x51], "movo r0,r1", 4), ([0xFE, 0xFF], ".word 0xfe", 1),
    ([0xFD, 0x32, 0x50, 0x51], "cvtdh r0,r1", 4), ([0xC1, 0x01, 0x02, 0x53], "addl3 S^#1,S^#2,r3", 4),
    ([0xFD, 0x54, 0x01, 0x8F, 0x34, 0x12, 0x00, 0x53, 0x54], "emodg S^#1:g,I^#0x1234,S^#0:g,r3,r4", 9),
    ([0x0A, 0x50, 0x51, 0x52, 0x53, 0x54, 0x55], "index r0,r1,r2,r3,r4,r5", 7),
    ([0xFB, 0x02, 0xEF, 0x10, 0x00, 0x00, 0x00], "calls S^#2,0x17", 7),
    ([0xBC, 0x8F, 0x01, 0x00], "chmk I^#0x0001", 4), ([0x8F, 0x50, 0x00, 0x01, 0x02], "caseb r0,S^#0,S^#1", 4),
    ([0xFC, 0x01], "xfc", 1)].all emits = true := by decide +kernel

/-- F7: a 16-byte immediate. -/
theorem test_vector_F7 : emits ([0xFD, 0x60, 0x8F, 0x00, 0x00, 0x00, 0x00, 0x00, 0x00, 0x00, 0x00, 0x00, 0x00, 0x00,
    0x00, 0x00, 0x00, 0x01, 0x40, 0x51], "addh2 I^#0x40010000000000000000000000000000:h,r1", 20) = true := by
  decide +kernel

/-- M7: an index chain past the limit. -/
theorem test_vector_M7 :
    faultOf (fetching { size 5 with indexChainLimit := some 1 } [0xD0, 0x41, 0x42, 0x53, 0x50]) =
      some { FaultRegs.clear with cause := .indexChain, addr := 2, size := 1, cp := 0xD0, cpv := true } := by
  decide +kernel
/-- M17: an immediate cut off, checked as one read of 8 bytes. -/
theorem test_vector_M17 : faultOf (fetching (size 7) [0x70, 0x8F, 0x00, 0x00, 0x80, 0x40, 0x50]) =
    some { FaultRegs.clear with cause := .oob, addr := 2, size := 8, cp := 0x70, cpv := true } := by decide +kernel
/-- O9: the byte after the escape byte is missing. -/
theorem test_vector_O9 : faultOf (fetching (size 1) [0xFD]) =
    some { FaultRegs.clear with cause := .oob, addr := 1, size := 1 } := by decide +kernel
/-- O11: another escape byte. -/
theorem test_vector_O11 : linesOf (fetching { size 4 with escapeByte := 0xFE } [0xFD, 0x7D, 0x50, 0x51]) =
    some ["00000000: fd           .word 0xfd"] := by decide +kernel
/-- L7: a descriptor with an invalid tag code. -/
def badTable : Params := { size 2 with optablePatch := [(0x01, some ⟨"X", [2, 12]⟩)] }
theorem test_vector_L7 : faultOf (fetching badTable [0x01, 0x50]) =
    some { FaultRegs.clear with cause := .badTag, addr := 2, cp := 0x01, cpv := true, tag := 12 } := by decide +kernel
/-- X4: a record of two rows. -/
theorem test_vector_X4 : linesOf (fetching (size 7) [0xD0, 0x8F, 0x2A, 0x00, 0x00, 0x00, 0x50]) =
    some ["00000000: d0 8f 2a 00  movl I^#0x0000002a,r0", "00000004: 00 00 50"] := by decide +kernel
/-- L1: a code segment of no bytes ends at once. -/
theorem test_vector_L1 : (after { fetching (size 1) [0x01] with csegSize := 0 }).map (fun t => (t.phase, t.out)) =
    some (.done, none) := by decide +kernel

/-! ### The host's side (program P5 of 95_test_vectors.md, step by step) -/

def p5 : State := State.initial (size 8)
def p5Loaded : State := p5.load 0 [0x01, 0xD0, 0x50, 0x51]

theorem test_load_is_read_back : [0, 1, 2, 3, 4].map p5Loaded.mem.read = [0x01, 0xD0, 0x50, 0x51, 0x00] := by
  decide +kernel
theorem test_load_past_end_rejected : ((p5Loaded.load 6 [0xAA, 0xBB, 0xCC]).hostRead .status).toNat = 0x100 := by
  decide +kernel
theorem test_load_at_end_taken : ((p5Loaded.load 6 [0xAA, 0xBB]).mem.read 7, (p5Loaded.load 6 [0xAA, 0xBB]).loadErr) =
    (0xBB, false) := by decide +kernel
theorem test_load_zero_removes_cell : (p5Loaded.load 1 [0x00]).mem.cells = [(0, 0x01), (2, 0x50), (3, 0x51)] := by
  decide +kernel
theorem test_write_while_running_ignored :
    ((p5Loaded.hostWrite .control 1).hostWrite .csegSize 9).csegSize = 0 := by decide +kernel
theorem test_status_running : ((p5Loaded.hostWrite .control 1).hostRead .status).toNat = 1 := by decide +kernel
theorem test_faultInfo_word : ({ p5 with faultRegs := { FaultRegs.clear with cp := 0xFD7D, cpv := true, tag := 12 } } :
    State).hostRead .faultInfo = 0x00C1FD7D := by decide +kernel
theorem test_pc_is_register_15 : ({ p5 with pc := 5 } : State).reg 15 = 5 := by decide +kernel
theorem test_image_inputs : imageInputs (List.replicate 4 0 ++ [0x02, 0x01, 0x00, 0x00] ++ List.replicate 24 7 ++ [0x04]) =
    [.load 0 [0x04], .write .csegSize 0x102, .write .control 1] := by decide +kernel
theorem test_host_register_numbers : [HostReg.csegSize, .control, .status, .faultAddr, .faultSize, .faultStart,
    .faultInfo].map HostReg.number = [0, 1, 2, 3, 4, 5, 6] := by decide

/-! ### States and operands that meet the hypotheses of the statements -/

/-- Bytes written from address 0 stand there. -/
theorem holds_fetching (P : Params) (bs : List Byte) (h : bs.length ≤ P.memSize) :
    Holds (fetching P bs).source (fetching P bs).pc bs := by
  refine ⟨by simpa [fetching, State.initial] using h, fun j hj => ?_⟩
  show (Memory.zero.writeBytes 0 bs).read (0 + j) = _
  rw [Memory.read_writeBytes _ _ _ _ Memory.wf_zero, if_pos (by omega)]
  simp

/-- The hypotheses of `RowCompletes`, at a state that holds the row's bytes with these operands. -/
def Meets (opcode : List Byte) (tags : List Tag) (ops : List Operand) : Prop :=
  let bs := opcode ++ ops.flatMap encodeOperand
  let s := fetching (size bs.length) bs
  OperandsFit s.params.indexChainLimit tags ops ∧ Holds s.source s.pc bs

theorem meets_of {opcode : List Byte} {tags : List Tag} {ops : List Operand}
    (h : (decide (ops.map Operand.tag = tags) && ops.all Operand.wellFormed) = true) : Meets opcode tags ops := by
  simp only [Bool.and_eq_true, decide_eq_true_eq] at h
  refine ⟨⟨h.1, h.2, ?_⟩, holds_fetching _ _ (Nat.le_refl _)⟩
  simp [fetching, State.initial, size, Config.defaultParams, chainAllowed]

theorem witness_SystemReturnAndByteBranchRowsEmitTheirRecords :
    Meets [0x00] [] [] ∧ Meets [0x11] [.bdisp8] [.branch8 0x80] ∧
    Meets [0x16] [.byte] [.general .byte (.pcRelative (.long 0x7FFFFFFF) true)] :=
  ⟨meets_of (by decide +kernel), meets_of (by decide +kernel), meets_of (by decide +kernel)⟩
theorem witness_DecimalAndQueueRowsEmitTheirRecords :
    Meets [0x0F] [.byte, .long] [.general .byte (.immediate 255), .general .long (.immediate (2 ^ 32 - 1))] :=
  meets_of (by decide +kernel)
theorem witness_PackedDecimalStringAndWordBranchRowsEmitTheirRecords :
    Meets [0x31] [.bdisp16] [.branch16 0x8000] ∧
    Meets [0x3C] [.word, .long] [.general .word (.immediate 65535), .general .long (.autodecrement 15)] :=
  ⟨meets_of (by decide +kernel), meets_of (by decide +kernel)⟩
theorem witness_FFloatingRowsEmitTheirRecords :
    Meets [0x50] [.fFloat, .fFloat] [.general .fFloat (.shortLiteral 63), .general .fFloat (.register 15)] :=
  meets_of (by decide +kernel)
theorem witness_DFloatingRowsEmitTheirRecords :
    Meets [0x73] [.dFloat] [.general .dFloat (.immediate (2 ^ 64 - 1))] := meets_of (by decide +kernel)
theorem witness_ShiftQuadwordAndOctawordRowsEmitTheirRecords :
    Meets [0xFD, 0x7C] [.octa] [.general .octa (.immediate (2 ^ 128 - 1))] ∧
    Meets [0x7C] [.quad] [.general .quad (.displacement 14 (.byte 0x80) true)] :=
  ⟨meets_of (by decide +kernel), meets_of (by decide +kernel)⟩
theorem witness_ByteIntegerRowsEmitTheirRecords :
    Meets [0x94] [.byte] [.general .byte (.indexed 15 (.indexed 0 (.autoincrement 14)))] := meets_of (by decide +kernel)
theorem witness_WordIntegerRowsEmitTheirRecords :
    Meets [0xB4] [.word] [.general .word (.absolute 0xFFFFFFFF)] := meets_of (by decide +kernel)
theorem witness_LongwordIntegerRowsEmitTheirRecords :
    Meets [0xD4] [.long] [.general .long (.displacement 0 (.word 0x8000) false)] := meets_of (by decide +kernel)
theorem witness_BitFieldLoopAndCallRowsEmitTheirRecords :
    Meets [0xF5] [.long, .bdisp8] [.general .long (.autoincrementDeferred 14), .branch8 0x7F] := meets_of (by decide +kernel)
theorem witness_CrossFormatFloatingRowsEmitTheirRecords :
    Meets [0xFD, 0x99] [.fFloat, .gFloat] [.general .fFloat (.shortLiteral 0), .general .gFloat (.register 0)] :=
  meets_of (by decide +kernel)
theorem witness_GFloatingRowsEmitTheirRecords :
    Meets [0xFD, 0x53] [.gFloat] [.general .gFloat (.pcRelative (.byte 0xFF) false)] := meets_of (by decide +kernel)
theorem witness_HFloatingRowsEmitTheirRecords :
    Meets [0xFD, 0x73] [.hFloat] [.general .hFloat (.registerDeferred 15)] := meets_of (by decide +kernel)

/-- Both kinds of outcome of an instruction occur. -/
theorem witness_InstructionsOnlyEmitOrTakeOobOrIndexChain :
    (after (fetching (size 1) [0x01])).map State.phase = some .emit ∧
    (faultOf (fetching (size 1) [0xD0])).map FaultRegs.cause = some .oob := by decide +kernel

/-- MOVO with an octaword immediate, cut off before its first byte, inside its opcode field, right after it, and one
byte before its end. -/
theorem witness_InstructionCutOffByEndOfMemoryTakesOob : ∀ n ∈ [0, 1, 2, 19],
    let x : AsmInstr := ⟨.movo, [.general .octa (.immediate 5), .general .octa (.register 0)]⟩
    let s := fetching (size n) ((encode x).take n)
    x.wellFormed = true ∧ x.withinChainLimit s.params.indexChainLimit = true ∧ n < (encode x).length ∧
    s.params.memSize = s.pc + n ∧ (∀ j, j < n → s.mem.read (s.pc + j) = (encode x).getD j 0) ∧
    s.params.memSize < 2 ^ 32 := by decide +kernel

theorem witness_IndexChainPastTheLimitTakesItsFault :
    let o : Operand := .general .long (.indexed 1 (.indexed 2 (.register 3)))
    let x : AsmInstr := ⟨.movl, [.general .long (.indexed 1 (.register 0))] ++ o :: []⟩
    let s := fetching { size 6 with indexChainLimit := some 1 } (encode x)
    x.wellFormed = true ∧ s.params.indexChainLimit = some 1 ∧
    [Operand.general .long (.indexed 1 (.register 0))].all (fun q => chainAllowed (some 1) q.indexBytes) = true ∧
    1 < o.indexBytes ∧ Holds s.source s.pc (encode x) ∧ s.params.memSize ≤ 2 ^ 32 :=
  ⟨by decide, rfl, by decide, by decide, holds_fetching _ _ (by decide), by decide⟩

/-- The one byte of a memory lies in a range of mode bytes. -/
def modeByteIn (lo hi : Nat) (m : Byte) : Bool :=
  decide (0 < (Source.ofBytes [m]).size) && decide (lo ≤ ((Source.ofBytes [m]).byte 0).toNat) &&
    decide (((Source.ofBytes [m]).byte 0).toNat ≤ hi)

/-- Each clause at both ends of its range. -/
theorem witness_OneByteModesMakeTheirRecords :
    Tag.isGeneral .hFloat = true ∧ [0x00, 0x3F].all (modeByteIn 0 0x3F) = true ∧
    [0x50, 0x5F].all (modeByteIn 0x50 0x5F) = true ∧ [0x60, 0x6F].all (modeByteIn 0x60 0x6F) = true ∧
    [0x70, 0x7F].all (modeByteIn 0x70 0x7F) = true ∧ [0x80, 0x8E].all (modeByteIn 0x80 0x8E) = true ∧
    [0x90, 0x9E].all (modeByteIn 0x90 0x9E) = true := by decide

/-- Literals that end at the end of memory, and one byte past it. -/
theorem witness_ImmediateAndAbsoluteModesMakeTheirRecords :
    Tag.isGeneral .octa = true ∧
    (let src := Source.ofBytes (0x8F :: List.replicate 16 1)
     0 < src.size ∧ src.byte 0 = 0x8F ∧ 0 + 1 + Tag.octa.width = src.size) ∧
    (let src := Source.ofBytes (0x8F :: List.replicate 15 1)
     0 < src.size ∧ src.byte 0 = 0x8F ∧ src.size < 0 + 1 + Tag.octa.width) ∧
    (let src := Source.ofBytes [0x9F, 1, 2, 3, 4]; 0 < src.size ∧ src.byte 0 = 0x9F ∧ 0 + 5 = src.size) ∧
    (let src := Source.ofBytes [0x9F, 1, 2, 3]; 0 < src.size ∧ src.byte 0 = 0x9F ∧ src.size < 0 + 5) := by decide

/-- For each displacement mode: register 0 and register 14, the field ending at the end of memory and one byte past it. -/
theorem witness_DisplacementModesMakeTheirRecords : ∀ mode ∈ dispModes, ∀ r ∈ [0, 14],
    let m : Byte := BitVec.ofNat 8 (16 * mode.1 + r)
    let fits := Source.ofBytes (m :: List.replicate mode.2.1 0x80)
    let short := Source.ofBytes (m :: List.replicate (mode.2.1 - 1) 0x80)
    (0 < fits.size ∧ (fits.byte 0).toNat / 16 = mode.1 ∧ (fits.byte 0).toNat % 16 ≠ 15 ∧
      0 + 1 + mode.2.1 = fits.size) ∧
    (0 < short.size ∧ (short.byte 0).toNat / 16 = mode.1 ∧ (short.byte 0).toNat % 16 ≠ 15 ∧
      short.size < 0 + 1 + mode.2.1) := by decide

theorem witness_PcRelativeModesComputeTheirTarget : ∀ mode ∈ dispModes,
    let m : Byte := BitVec.ofNat 8 (16 * mode.1 + 15)
    let fits := Source.ofBytes (m :: List.replicate mode.2.1 0xFF)
    let short := Source.ofBytes (m :: List.replicate (mode.2.1 - 1) 0xFF)
    (0 < fits.size ∧ (fits.byte 0).toNat / 16 = mode.1 ∧ (fits.byte 0).toNat % 16 = 15 ∧
      0 + 1 + mode.2.1 = fits.size) ∧
    (0 < short.size ∧ (short.byte 0).toNat / 16 = mode.1 ∧ (short.byte 0).toNat % 16 = 15 ∧
      short.size < 0 + 1 + mode.2.1) := by decide

theorem witness_IndexedModeWrapsItsBase : ∀ m ∈ ([0x40, 0x4F] : List Byte),
    let src := Source.ofBytes [m, 0x50]
    Tag.isGeneral .long = true ∧ 0 < src.size ∧ (src.byte 0).toNat / 16 = 4 := by decide

theorem witness_BranchDisplacementsComputeTheirTarget :
    0 + 1 = (Source.ofBytes [0x80]).size ∧ (Source.ofBytes []).size < 0 + 1 ∧
    0 + 2 = (Source.ofBytes [0x00, 0x80]).size ∧ (Source.ofBytes [0x00]).size < 0 + 2 := by decide

theorem witness_ModeByteAndTagCodeFaults :
    Tag.isGeneral .byte = true ∧ (Source.ofBytes [1]).size ≤ 1 ∧ 11 ≤ (11 : BitVec 4).toNat ∧
    11 ≤ (15 : BitVec 4).toNat := by decide

theorem witness_TagCodesClassesAndWidths : 11 ≤ (11 : BitVec 4).toNat ∧ 11 ≤ (15 : BitVec 4).toNat := by decide

theorem witness_DecodeGivesBackEveryEncodedInstruction :
    let x : AsmInstr := ⟨.bbs, [.general .long (.immediate (2 ^ 32 - 1)), .general .byte (.indexed 15 (.register 15)),
      .branch8 0x80]⟩
    let s := fetching (size 9) (encode x)
    s.params.escapeByte = 0xFD ∧ s.params.optablePatch = [] ∧ x.wellFormed = true ∧
    x.withinChainLimit s.params.indexChainLimit = true ∧ Holds s.source s.pc (encode x) :=
  ⟨rfl, rfl, by decide, by decide, holds_fetching _ _ (by decide)⟩

theorem witness_EncodeGivesBackTheDecodedBytes :
    decodeInstr (size 3) (Source.ofBytes [0xD0, 0x3F, 0x5F]) 0 =
      .ok (.known ⟨.movl, [.general .long (.shortLiteral 63), .general .long (.register 15)]⟩, 3) := by decide +kernel

theorem witness_ZeroOperandBytesGiveTheMinimumLength :
    let bs := encodeOpcode Instr.acbh.codepoint ++
      List.replicate (Instr.acbh.tags.map (fun t => if t = .bdisp16 then 2 else 1)).sum 0
    let s := fetching (size 7) bs
    s.params.escapeByte = 0xFD ∧ s.params.optablePatch = [] ∧ Holds s.source s.pc bs :=
  ⟨rfl, rfl, holds_fetching _ _ (by decide)⟩

theorem witness_OpcodeFieldIsOneByteOrEscapeAndOne :
    (0 + 1 ≤ (Source.ofBytes [0xFE]).size ∧ (Source.ofBytes [0xFE]).byte 0 ≠ 0xFD) ∧
    (0 + 2 ≤ (Source.ofBytes [0xFD, 0xFD]).size ∧ (Source.ofBytes [0xFD, 0xFD]).byte 0 = 0xFD) ∧
    (Source.ofBytes []).size ≤ 0 ∧
    ((Source.ofBytes [0xFD]).size = 0 + 1 ∧ (Source.ofBytes [0xFD]).byte 0 = 0xFD) := by decide

theorem witness_FetchReadsLittleEndianWithinMemory :
    0 + 16 ≤ (Source.ofBytes (List.replicate 16 0xFF)).size ∧ (Source.ofBytes [0xFF]).size < 0 + 2 := by decide

/-- The hypotheses that the statements about FETCH_OPCODE share. -/
def Fetches (s : State) : Prop := s.inputs = [] ∧ s.phase = .fetchOpcode ∧ s.pc < s.csegSize.toNat

theorem witness_StepRunsTheDecodedInstruction :
    let s := fetching (size 3) [0xD0, 0x50, 0x51]
    Fetches s ∧ decodeOpcode s.params s.source s.pc = .ok (.known .movl, 1) ∧
    decodeInstr s.params s.source s.pc =
      .ok (.known ⟨.movl, [.general .long (.register 0), .general .long (.register 1)]⟩, 3) :=
  ⟨⟨rfl, rfl, by decide⟩, by decide +kernel, by decide +kernel⟩

/-- CSEG_SIZE equal to `pc`, one more, and 0. -/
theorem witness_TerminationTestIsTheOnlyWayToDone :
    (let s := { fetching (size 3) [0x01] with pc := 1 }
     s.inputs = [] ∧ s.phase = .fetchOpcode ∧ s.csegSize.toNat = s.pc ∧ s.phase.running = true ∧
       (after s).map State.phase = some .done) ∧
    (let s := { fetching (size 3) [0x01, 0x01] with pc := 1 }
     s.inputs = [] ∧ s.phase = .fetchOpcode ∧ s.pc + 1 = s.csegSize.toNat) ∧
    (let s := fetching (size 3) []
     s.inputs = [] ∧ s.phase = .fetchOpcode ∧ s.csegSize = 0 ∧ (after s).isSome = true) := by decide +kernel

theorem witness_UnknownCodepointEmitsItsOpcodeFieldAlone :
    (let s := fetching (size 1) [0x57]
     Fetches s ∧ fetchOpcode s.params.escapeByte s.source s.pc = .ok (0x57, 1, 1) ∧ s.params.optable 0x57 = none) ∧
    (let s := fetching (size 2) [0xFD, 0xFF]
     Fetches s ∧ fetchOpcode s.params.escapeByte s.source s.pc = .ok (0xFDFF, 2, 2) ∧
       s.params.optable 0xFDFF = none) :=
  ⟨⟨⟨rfl, rfl, by decide⟩, by decide +kernel, by decide +kernel⟩,
   ⟨⟨rfl, rfl, by decide⟩, by decide +kernel, by decide +kernel⟩⟩

theorem witness_OpcodeFetchPastMemoryTakesOob :
    (let s := { fetching (size 1) [0x01, 0x01] with pc := 1 }; Fetches s ∧ s.params.memSize = s.pc) ∧
    (let s := fetching (size 1) [0xFD]
     Fetches s ∧ s.params.memSize = s.pc + 1 ∧ s.mem.read s.pc = s.params.escapeByte) :=
  ⟨⟨⟨rfl, rfl, by decide⟩, rfl⟩, ⟨⟨rfl, rfl, by decide⟩, rfl, by decide +kernel⟩⟩

theorem witness_MalformedDescriptorTakesBadTag :
    let s := fetching badTable [0x01, 0x50]
    Fetches s ∧ decodeOpcode s.params s.source s.pc = .ok (.otherRow 0x01 1 ⟨"X", [2] ++ 12 :: []⟩, 1) ∧
    decodeOperands s.params.indexChainLimit s.source [2] 1 = .ok ([.general .long (.register 0)], 2) ∧
    11 ≤ (12 : BitVec 4).toNat :=
  ⟨⟨rfl, rfl, by decide⟩, by decide +kernel, by decide +kernel, by decide⟩

theorem witness_StepIsDecodeInstruction : Fetches (fetching (size 1) [0x01]) := ⟨rfl, rfl, by decide⟩

/-- A record of a known instruction and one of an unknown codepoint. -/
theorem witness_RecordsAreContiguous :
    let s := fetching (size 4) [0xD0, 0x45, 0x50, 0x51]
    (decodeInstruction s.params s.mem 0).toOption.isSome = true ∧
    (decodeInstruction (size 1) (Memory.zero.writeBytes 0 [0x57]) 0).toOption.isSome = true := by decide +kernel

theorem witness_RecordBytesAreTheBytesFetched :
    ((decodeInstruction (size 2) (Memory.zero.writeBytes 0 [0x11, 0x80]) 0).toOption.map
      (fun r => (r.stop, r.bytes))) = some (2, [0x11, 0x80]) := by decide +kernel

/-- A run that ends in DONE, and one that ends in FAULT. -/
theorem witness_MachineRunIsTheRunFunction : ∀ bs ∈ ([[0x01, 0x57], [0xD0]] : List (List Byte)),
    let s : State := { State.initial (size bs.length) with
      mem := Memory.zero.writeBytes 0 bs, csegSize := BitVec.ofNat 32 bs.length, inputs := [.write .control 1] }
    s.phase.running = false ∧ s.ready = true ∧ s.inputs = [.write .control 1] := by decide +kernel

theorem witness_OperandStepsReachTheOneStepInstruction :
    let s := fetching (size 3) [0xD0, 0x50, 0x51]
    s.inputs = [] ∧ checkOpcode s.params.memSize s.pc 1 = .ok 1 := by decide +kernel

/-- A record held for a consumer that does not accept it, for one that does, and while the host asks for a load. -/
def holding : State := (after (fetching (size 1) [0x01])).getD State.reset
theorem witness_EmitHoldsTheRecordUntilAccepted :
    holding.phase = .emit ∧ holding.out.isSome = true ∧ holding.inputs = [] ∧ holding.ready = true ∧
    ({ holding with ready := false } : State).ready = false ∧
    (after { holding with inputs := [.load 0 [0x02]] }).map (fun t => (t.phase, t.loadErr)) = some (.emit, true) := by
  decide +kernel

theorem witness_IdleDoneAndFaultWaitForTheHost : ∀ p ∈ [Phase.idle, .done, .fault],
    let s := { State.initial (size 1) with phase := p }
    s.inputs = [] ∧ (s.phase = .idle ∨ s.phase = .done ∨ s.phase = .fault) := by decide +kernel

theorem witness_MemoryIsConstantDuringARun :
    (let s := fetching (size 1) [0x01]; s.inputs = [] ∧ (after s).isSome = true) ∧
    (let s := { fetching (size 1) [0x01] with inputs := [.load 0 [0x02]] }
     s.phase.running = true ∧ s.inputs = .load 0 [0x02] :: [] ∧ Input.load 0 [0x02] ≠ .reset ∧
       (after s).isSome = true) := by decide +kernel

theorem witness_PcOnlyAdvances :
    let s := fetching (size 1) [0x01]
    s.inputs = [] ∧ s.phase = .fetchOpcode ∧ (after s).map State.phase = some .emit := by decide +kernel

theorem witness_GeneralRegistersHaveNoInfluence :
    let s := fetching (size 1) [0x01]
    s.inputs = [] ∧ (after s).isSome = true := by decide +kernel

/-- The invariant at a state that is about to fetch its first instruction. -/
theorem inv_fetching (P : Params) (bs : List Byte) (hP : P.Valid) (h : bs.length ≤ P.memSize) :
    (fetching P bs).Inv :=
  ⟨Memory.wf_writeBytes _ _ _ Memory.wf_zero, Memory.below_writeBytes _ _ _ _ (by show 0 + bs.length ≤ P.memSize; omega) rfl, hP, rfl,
   Nat.zero_le _, rfl, by simp [fetching, State.initial, FaultRegs.clear], rfl, rfl⟩

theorem witness_FaultEntryIsPrecise :
    let s := fetching (size 1) [0xD0]
    s.Inv ∧ s.inputs = [] ∧ s.phase ≠ .fault ∧ (after s).map State.phase = some .fault :=
  ⟨inv_fetching _ _ (by decide) (by decide), rfl, by decide, by decide +kernel⟩

theorem witness_ResetGivesTheResetValues :
    (fetching (size 1) [0x01]).hostReset = State.initial (size 1) ∧ State.reset = State.initial Config.defaultParams :=
  ⟨rfl, rfl⟩

theorem witness_StartBeginsARunAtAddressZero :
    (1 : BitVec 32).getLsbD 0 = true ∧ (0xFFFFFFFF : BitVec 32).getLsbD 0 = true ∧
    (fetching (size 1) [0x01]).phase.running = true ∧ (State.initial (size 1)).phase.running = false := by decide

/-- Loads that end at the end of memory, one byte past it, and during a run. -/
theorem witness_LoadIsTakenWholeOrRejectedWhole :
    p5.mem.wf = true ∧ ¬(p5.phase.running = true ∨ p5.params.memSize < 6 + [0xAA, 0xBB].length) ∧
    (p5.phase.running = true ∨ p5.params.memSize < 6 + [0xAA, 0xBB, 0xCC].length) ∧
    (fetching (size 8) [0x01]).phase.running = true := by decide +kernel

theorem witness_HostWritesTheRegisterMap :
    HostReg.status ≠ .csegSize ∧ HostReg.status ≠ .control ∧ (fetching (size 1) [0x01]).phase.running = true ∧
    p5.phase.running = false ∧ (0xFFFFFFFE : BitVec 32).getLsbD 0 = false := by decide

/-- The shortest image with a size field, and one whose code fills the memory. -/
theorem witness_ImageTransactionsBootTheRun : ∀ n ∈ [8, 0x28],
    p5.phase.running = false ∧ p5.mem.wf = true ∧ 8 ≤ (List.replicate n (0x01 : Byte)).length ∧
    (List.replicate n (0x01 : Byte)).length - 0x20 ≤ p5.params.memSize := by decide +kernel

theorem witness_ResetHasTheInvariant : Config.defaultParams.Valid ∧ (size 1).Valid := by decide

theorem witness_EveryStepKeepsTheInvariant :
    (fetching (size 1) [0x01]).Inv ∧ (after (fetching (size 1) [0x01])).isSome = true :=
  ⟨inv_fetching _ _ (by decide) (by decide), by decide +kernel⟩

theorem witness_NoRunFromResetEverStops :
    (fetching (size 1) [0xD0]).Inv ∧ (size 1).Valid ∧ (size (2 ^ 32)).Valid :=
  ⟨inv_fetching _ _ (by decide) (by decide), by decide, by decide⟩

/-- 43_listing R293, the rule's example: the run of `01` with CSEG_SIZE 1. -/
theorem test_listing_of_run :
    listingOfRun (run (size 1) (Memory.zero.writeBytes 0 [0x01]) 1).1 = "00000000: 01           nop\n" := by
  decide +kernel

/-- The last address a row can start at; the record of a one-byte instruction, and of one of two rows. -/
theorem witness_ListingRowsAndTextColumn :
    2 ^ 32 - 1 < 2 ^ 32 ∧
    (holding.out.map (fun r => decide (r.bytes ≠ []))) = some true ∧
    ((after (fetching (size 7) [0xD0, 0x8F, 0, 0, 0, 0, 0x50])).bind (fun t => t.out.map (fun r => r.bytes.length))) =
      some 7 := by decide +kernel

theorem witness_ListingTextOfRecords :
    ((after (fetching (size 1) [0x57])).bind (fun t => t.out.map Record.mnemonic)) = some none ∧
    holding.out.map (fun r => (r.mnemonic, r.ops)) = some (some "NOP", []) ∧
    ((after (fetching (size 2) [0x11, 0x00])).bind (fun t => t.out.map (fun r => (r.mnemonic, r.ops.length)))) =
      some (some "BRB", 1) := by decide +kernel

/-- Immediates at the largest value of each width. -/
theorem witness_ListingTextOfOperands : ∀ w ∈ [1, 2, 4, 8, 16], 1 ≤ w ∧ 256 ^ w - 1 < 256 ^ w := by decide +kernel

end Sys2Proof.Tests
end

/-! Proofs of the statements about the state (10_state): what a reset, a host access and a step of the engine do to
it. -/
namespace Sys2Proof.Machine

/-! ### DecodeInstruction: what it answers, and that the engine runs it -/

/-- A record that is decoded: of the opcode field alone where there is no descriptor, and with its operands else. -/
theorem decodeInstruction_ok {P : Params} {mem : Memory} {p : Nat} {r : Record}
    (h : decodeInstruction P mem p = .ok r) :
    ∃ cp cw q, fetchOpcode P.escapeByte (sourceOf P mem) p = .ok (cp, cw, q) ∧
      (P.optable cp = none ∧ r = recordOver mem p q cp cw none [] ∨
        ∃ d os e, P.optable cp = some d ∧
          decodeOperands P.indexChainLimit (sourceOf P mem) d.tags q = .ok (os, e) ∧
          r = recordOver mem p e cp cw (some d.mnemonic) (operandRecordsAt q os)) := by
  unfold decodeInstruction at h
  cases hf : fetchOpcode P.escapeByte (sourceOf P mem) p with
  | error f => simp [hf] at h
  | ok x =>
    obtain ⟨cp, cw, q⟩ := x
    refine ⟨cp, cw, q, rfl, ?_⟩
    cases ht : P.optable cp with
    | none => simp only [hf, ht, Except.ok.injEq] at h; exact .inl ⟨rfl, h.symm⟩
    | some d =>
      simp only [hf, ht, decodeRow, resolveOperands_eq] at h
      cases hd : decodeOperands P.indexChainLimit (sourceOf P mem) d.tags q with
      | error f => simp [hd] at h
      | ok oe =>
        simp only [hd, Except.ok.injEq] at h
        exact .inr ⟨d, oe.1, oe.2, rfl, hd, h.symm⟩

/-- A fault of decoding: of the opcode field, or of an operand once the codepoint is known. -/
theorem decodeInstruction_error {P : Params} {mem : Memory} {p : Nat} {f : InstrFault}
    (h : decodeInstruction P mem p = .error f) :
    (∃ g, fetchOpcode P.escapeByte (sourceOf P mem) p = .error g ∧ f = ⟨g, none⟩) ∨
      ∃ cp cw q d g, fetchOpcode P.escapeByte (sourceOf P mem) p = .ok (cp, cw, q) ∧ P.optable cp = some d ∧
        decodeOperands P.indexChainLimit (sourceOf P mem) d.tags q = .error g ∧ f = ⟨g, some cp⟩ := by
  unfold decodeInstruction at h
  cases hf : fetchOpcode P.escapeByte (sourceOf P mem) p with
  | error g => simp only [hf, Except.error.injEq] at h; exact .inl ⟨g, rfl, h.symm⟩
  | ok x =>
    obtain ⟨cp, cw, q⟩ := x
    cases ht : P.optable cp with
    | none => simp [hf, ht] at h
    | some d =>
      simp only [hf, ht, decodeRow, resolveOperands_eq] at h
      cases hd : decodeOperands P.indexChainLimit (sourceOf P mem) d.tags q with
      | error g =>
        simp only [hd, Except.error.injEq] at h
        exact .inr ⟨cp, cw, q, d, g, rfl, ht, hd, h.symm⟩
      | ok oe => simp [hd] at h

/-- A decoded record takes at least one byte and ends within memory (42_decode_loop R253). -/
theorem decodeInstruction_stop {P : Params} {mem : Memory} {p : Nat} {r : Record}
    (h : decodeInstruction P mem p = .ok r) : p < r.stop ∧ r.stop ≤ P.memSize := by
  obtain ⟨cp, cw, q, hf, hr⟩ := decodeInstruction_ok h
  obtain ⟨hpq, hq, -⟩ := checkOpcode_ok (fetchOpcode_check hf)
  rcases hr with ⟨-, rfl⟩ | ⟨d, os, e, -, hd, rfl⟩
  · exact ⟨hpq, hq⟩
  · obtain ⟨-, -, rfl, hholds, -⟩ := decodeOperands_ok hq hd
    exact ⟨Nat.lt_add_right _ hpq, hholds.1⟩

/-- A decoded record is the one made of its own end, opcode field and operands. -/
theorem decodeInstruction_eq_recordOver {P : Params} {mem : Memory} {p : Nat} {r : Record}
    (h : decodeInstruction P mem p = .ok r) :
    r = recordOver mem p r.stop r.cp r.cw ((P.optable r.cp).map Descriptor.mnemonic) r.ops := by
  obtain ⟨cp, cw, q, -, ⟨ht, rfl⟩ | ⟨d, os, e, ht, -, rfl⟩⟩ := decodeInstruction_ok h
  · simp [recordOver, ht]
  · simp [recordOver, ht]

/-- The state that decoding the instruction at `pc` leads to: its record presented, or its fault taken. -/
def State.afterDecode (s : State) : Except InstrFault Record → State
  | .ok r => s.present r.stop r.cp r.cw (s.params.optable r.cp) r.ops
  | .error f => s.takeFault s.pc f

/-- An instruction of the engine is `DecodeInstruction` of MEM at `pc` (42_decode_loop R248). -/
theorem fetchAndRun_eq_afterDecode (s : State) :
    s.fetchAndRun = .next (s.afterDecode (decodeInstruction s.params s.mem s.pc)) := by
  rw [fetchAndRun_spec]
  unfold decodeInstruction
  have hsrc : sourceOf s.params s.mem = s.source := rfl
  rw [hsrc]
  cases hf : fetchOpcode s.params.escapeByte s.source s.pc with
  | error f => rfl
  | ok x =>
    obtain ⟨cp, cw, q⟩ := x
    have hck : checkOpcode s.params.memSize s.pc cw = .ok q := fetchOpcode_check hf
    cases ht : s.params.optable cp with
    | none => simp [State.afterDecode, recordOver, ht]
    | some d =>
      simp only [ht, State.runRow, hck, decodeRow, hsrc]
      cases resolveOperands s.params.indexChainLimit s.source d.tags q with
      | error f => rfl
      | ok oe => simp [State.afterDecode, recordOver, ht]

/-- One more record, decoded where the records before it end. -/
theorem Decodes.snoc {P : Params} {mem : Memory} {cseg a b : Nat} {rs : List Record} {r : Record}
    (h : Decodes P mem cseg a rs b) (hb : b < cseg) (hr : decodeInstruction P mem b = .ok r) :
    Decodes P mem cseg a (rs ++ [r]) r.stop := by
  induction rs generalizing a with
  | nil => obtain rfl : a = b := h; exact ⟨hb, hr, rfl⟩
  | cons x xs ih =>
    obtain ⟨hlt, hx, hxs⟩ := h
    exact ⟨hlt, hx, ih hxs⟩

/-! ### The fault registers -/

/-- What 60_exceptions R301 lets a fault of an instruction be: a read of one of the five widths, or, once the codepoint
is known, an invalid tag code or an index byte too many. -/
def RaisableFault (f : InstrFault) : Prop :=
  match f.fault with
  | .oob _ n => n ∈ [1, 2, 4, 8, 16]
  | .badTag _ c => 11 ≤ c.toNat ∧ f.cp.isSome = true
  | .indexChain _ => f.cp.isSome = true

/-- Every fault of the opcode field is raisable. -/
theorem fetchOpcode_error_raisable {e : Byte} {src : Source} {a : Nat} {g : DecodeFault}
    (h : fetchOpcode e src a = .error g) : RaisableFault ⟨g, none⟩ := by
  rcases fetchOpcode_error h with ⟨rfl, -⟩ | ⟨rfl, -⟩ <;> simp [RaisableFault]

/-- Every fault of an operand list is raisable once the codepoint is known. -/
theorem decodeOperands_error_raisable {limit : Option Nat} {src : Source} {cs : List (BitVec 4)} {a : Nat}
    {g : DecodeFault} (cp : Codepoint) (h : decodeOperands limit src cs a = .error g) :
    RaisableFault ⟨g, some cp⟩ := by
  rcases decodeOperands_error h with ⟨addr, c, -, hc, rfl, -⟩ | ⟨addr, n, rfl, -, -, -, hn⟩ | ⟨addr, rfl, -⟩
  · exact ⟨hc, rfl⟩
  · exact hn
  · exact rfl

theorem decodeInstruction_error_raisable {P : Params} {mem : Memory} {p : Nat} {f : InstrFault}
    (h : decodeInstruction P mem p = .error f) : RaisableFault f := by
  rcases decodeInstruction_error h with ⟨g, hg, rfl⟩ | ⟨cp, cw, q, d, g, -, -, hg, rfl⟩
  · exact fetchOpcode_error_raisable hg
  · exact decodeOperands_error_raisable cp hg

/-- Taking a fault always leaves a cause. -/
theorem faultRegsOf_cause_ne_none (free : BitVec 32) (start : Nat) (f : InstrFault) :
    (faultRegsOf free start f).cause ≠ .none := by
  obtain ⟨g, cp⟩ := f
  cases g <;> simp [faultRegsOf]

theorem faultRegsOf_legal (free : BitVec 32) (start : Nat) {f : InstrFault} (h : RaisableFault f) :
    (faultRegsOf free start f).Legal := by
  obtain ⟨g, cp⟩ := f
  cases g with
  | oob addr n =>
    have hn : n ∈ [1, 2, 4, 8, 16] := h
    have hsize : (BitVec.ofNat 5 n).toNat = n := by
      rw [BitVec.toNat_ofNat, Nat.mod_eq_of_lt]
      simp only [List.mem_cons, List.not_mem_nil, or_false] at hn
      omega
    refine ⟨?_, rfl, fun hcpv => ?_⟩
    · simpa only [faultRegsOf, hsize] using hn
    · cases cp with
      | none => rfl
      | some cp => cases hcpv
  | badTag addr c => exact ⟨rfl, h⟩
  | indexChain addr => exact ⟨rfl, rfl, h⟩

/-! ### The run in progress, by phase -/

theorem runInv_fetchOpcode {s : State} (h : s.phase = .fetchOpcode) :
    s.RunInv ↔ s.out = none ∧ Decodes s.params s.mem s.csegSize.toNat 0 s.accepted s.pc := by
  simp [State.RunInv, h]

theorem runInv_emit {s : State} (h : s.phase = .emit) :
    s.RunInv ↔ ∃ r, s.out = some r ∧ Decodes s.params s.mem s.csegSize.toNat 0 (s.accepted ++ [r]) s.pc := by
  simp [State.RunInv, h]

theorem not_runInv_decodeOperands {s : State} (h : s.phase = .decodeOperands) : ¬ s.RunInv := by
  simp [State.RunInv, h]

theorem runInv_stopped {s : State} (h : s.phase.running = false) : s.RunInv ↔ s.out = none := by
  cases hp : s.phase <;> simp_all [State.RunInv, Phase.running]

/-- Outside a run, MEM and CSEG_SIZE have no part in the invariant of the run. -/
theorem runInv_congr_of_stopped {s t : State} (h : s.phase.running = false) (hp : t.phase = s.phase)
    (ho : t.out = s.out) (hs : s.RunInv) : t.RunInv := by
  rw [runInv_stopped (by rw [hp, h]), ho]
  exact (runInv_stopped h).1 hs

/-! ### The operations of the engine keep the invariant -/

theorem State.Inv.runInv {s : State} (hs : s.Inv) : s.RunInv := by
  obtain ⟨-, -, -, -, -, -, -, hrun⟩ := hs
  exact hrun

theorem State.Inv.takeFault {s : State} {f : InstrFault} (start : Nat) (hs : s.Inv) (hp : s.phase = .fetchOpcode)
    (hf : RaisableFault f) : (s.takeFault start f).Inv := by
  obtain ⟨hwf, hbelow, hvalid, hx, -, -, -, hrun⟩ := hs
  have hout : s.out = none := ((runInv_fetchOpcode hp).1 hrun).1
  exact ⟨hwf, hbelow, hvalid, hx, Nat.le_of_lt_succ (Nat.mod_lt _ (Nat.succ_pos _)), faultRegsOf_legal _ _ hf,
    iff_of_true (faultRegsOf_cause_ne_none _ _ _) rfl, hout⟩

theorem State.Inv.present {s : State} {r : Record} (hs : s.Inv) (hp : s.phase = .fetchOpcode)
    (hpc : s.pc < s.csegSize.toNat) (hr : decodeInstruction s.params s.mem s.pc = .ok r) :
    (s.present r.stop r.cp r.cw (s.params.optable r.cp) r.ops).Inv := by
  obtain ⟨hwf, hbelow, hvalid, hx, -, hlegal, hcause, hrun⟩ := hs
  obtain ⟨-, hdec⟩ := (runInv_fetchOpcode hp).1 hrun
  have hrec : some (recordOver s.mem s.pc r.stop r.cp r.cw ((s.params.optable r.cp).map Descriptor.mnemonic) r.ops) =
      some r := congrArg some (decodeInstruction_eq_recordOver hr).symm
  refine ⟨hwf, hbelow, hvalid, hx, (decodeInstruction_stop hr).2, hlegal, ?_, r, hrec, hdec.snoc hpc hr⟩
  simpa [hp] using hcause

theorem State.Inv.accept {s : State} {r : Record} (hs : s.Inv) (hp : s.phase = .emit) (hr : s.out = some r) :
    (s.accept r).Inv := by
  obtain ⟨hwf, hbelow, hvalid, hx, hpc, hlegal, hcause, hrun⟩ := hs
  obtain ⟨r', hr', hdec⟩ := (runInv_emit hp).1 hrun
  obtain rfl : r' = r := by simpa [hr'] using hr
  exact ⟨hwf, hbelow, hvalid, hx, hpc, hlegal, by simpa [hp] using hcause, rfl, hdec⟩

theorem State.Inv.done {s : State} (hs : s.Inv) (hp : s.phase = .fetchOpcode) :
    ({ s with phase := .done } : State).Inv := by
  obtain ⟨hwf, hbelow, hvalid, hx, hpc, hlegal, hcause, hrun⟩ := hs
  exact ⟨hwf, hbelow, hvalid, hx, hpc, hlegal, by simpa [hp] using hcause, ((runInv_fetchOpcode hp).1 hrun).1⟩

theorem State.Inv.engineStep {s t : State} (hs : s.Inv) (h : s.engineStep = .next t) : t.Inv := by
  rcases engineStep_cases h with ⟨-, rfl⟩ | ⟨hp, -, rfl⟩ | ⟨hp, hpc, hfetch⟩ | ⟨hp, -⟩ | ⟨hp, hemit⟩
  · exact hs
  · exact hs.done hp
  · rw [fetchAndRun_eq_afterDecode, Host.Outcome.next.injEq] at hfetch
    subst hfetch
    cases hd : decodeInstruction s.params s.mem s.pc with
    | ok r => exact hs.present hp hpc hd
    | error f => exact hs.takeFault s.pc hp (decodeInstruction_error_raisable hd)
  · exact absurd hs.runInv (not_runInv_decodeOperands hp)
  · obtain ⟨r, hr, -⟩ := (runInv_emit hp).1 hs.runInv
    rcases hemit with ⟨hnone, -⟩ | ⟨r', hr', ⟨-, rfl⟩ | ⟨-, rfl⟩⟩
    · simp [hr] at hnone
    · exact hs.accept hp hr'
    · exact hs

/-! ### The inputs keep the invariant -/

theorem State.Inv.initial {P : Params} (hP : P.Valid) : (State.initial P).Inv :=
  ⟨Memory.wf_zero, rfl, hP, rfl, Nat.zero_le _, rfl, by simp [State.initial, FaultRegs.clear], rfl⟩

theorem State.Inv.hostReset {s : State} (hs : s.Inv) : s.hostReset.Inv := by
  obtain ⟨-, -, hvalid, -⟩ := hs
  exact State.Inv.initial hvalid

theorem State.Inv.startRun {s : State} (hs : s.Inv) : s.startRun.Inv := by
  obtain ⟨hwf, hbelow, hvalid, hx, -⟩ := hs
  exact ⟨hwf, hbelow, hvalid, hx, Nat.zero_le _, rfl, by simp [FaultRegs.clear], rfl, rfl⟩

theorem State.Inv.load {s : State} (offset : Nat) (bytes : List Byte) (hs : s.Inv) : (s.load offset bytes).Inv := by
  unfold State.load
  split
  · exact hs
  · next hfree =>
    simp only [Bool.or_eq_true, decide_eq_true_eq, not_or, Bool.not_eq_true, Nat.not_lt] at hfree
    obtain ⟨hstop, hfits⟩ := hfree
    obtain ⟨hwf, hbelow, hvalid, hx, hpc, hlegal, hcause, hrun⟩ := hs
    exact ⟨s.mem.wf_writeBytes offset bytes hwf, s.mem.below_writeBytes offset _ bytes hfits hbelow, hvalid, hx, hpc,
      hlegal, hcause, runInv_congr_of_stopped hstop rfl rfl hrun⟩

theorem State.Inv.hostWrite {s : State} (reg : HostReg) (v : BitVec 32) (hs : s.Inv) : (s.hostWrite reg v).Inv := by
  cases reg with
  | csegSize =>
    simp only [State.hostWrite]
    split
    · exact hs
    · next hstop =>
      rw [Bool.not_eq_true] at hstop
      obtain ⟨hwf, hbelow, hvalid, hx, hpc, hlegal, hcause, hrun⟩ := hs
      exact ⟨hwf, hbelow, hvalid, hx, hpc, hlegal, hcause, runInv_congr_of_stopped hstop rfl rfl hrun⟩
  | control =>
    simp only [State.hostWrite]
    split
    · exact hs.startRun
    · exact hs
  | status | faultAddr | faultSize | faultStart | faultInfo => exact hs

theorem State.Inv.serve {s : State} (e : Input) (hs : s.Inv) : (s.serve e).Inv := by
  cases e with
  | engine => exact hs
  | load offset bytes => exact hs.load offset bytes
  | write reg v => exact hs.hostWrite reg v
  | consumer r => exact hs
  | reset => exact hs.hostReset

/-- The invariant says nothing of what the parties outside do next. -/
theorem State.Inv.inputs {s : State} (ins : List Input) (hs : s.Inv) : ({ s with inputs := ins } : State).Inv := hs

/-- Settles O56: the engine's operations and every input keep the invariant. -/
theorem everyStepKeepsTheInvariant : Obligations.EveryStepKeepsTheInvariant := by
  intro s t hs h
  rcases step_cases h with ⟨-, heng⟩ | ⟨e, rest, -, ⟨-, heng⟩ | ⟨-, rfl⟩⟩
  · exact hs.engineStep heng
  · exact (hs.inputs rest).engineStep heng
  · exact (hs.inputs rest).serve e

/-- Settles O55. -/
theorem resetHasTheInvariant : Obligations.ResetHasTheInvariant :=
  ⟨fun _ hP => State.Inv.initial hP, State.Inv.initial (by decide)⟩

/-! ### A malformed descriptor -/

theorem step_fetch {s : State} (hin : s.inputs = []) (hp : s.phase = .fetchOpcode) (hpc : s.pc < s.csegSize.toNat) :
    step s = s.fetchAndRun := by
  rw [step_engine hin, State.engineStep, hp]
  exact if_neg (Nat.not_le.2 hpc)

/-- The opcode phase that selects a row of another OPTABLE has fetched that row's codepoint. -/
theorem fetchOpcode_of_decodeOpcode_otherRow {P : Params} {src : Source} {a cw p : Nat} {cp : Codepoint}
    {d : Descriptor} (h : decodeOpcode P src a = .ok (.otherRow cp cw d, p)) :
    fetchOpcode P.escapeByte src a = .ok (cp, cw, p) := by
  unfold decodeOpcode at h
  cases hf : fetchOpcode P.escapeByte src a with
  | error f => simp [hf] at h
  | ok x =>
    obtain ⟨cp', cw', p'⟩ := x
    simp only [hf, Except.ok.injEq, Prod.mk.injEq] at h
    obtain ⟨hsel, rfl⟩ := h
    have hspec := selectOpcode_spec P cp' cw'
    rw [hsel] at hspec
    obtain ⟨rfl, rfl, -⟩ := hspec
    rfl

theorem fetchAndRun_otherRow {s : State} {cp : Codepoint} {cw p : Nat} {d : Descriptor}
    (h : decodeOpcode s.params s.source s.pc = .ok (.otherRow cp cw d, p)) :
    s.fetchAndRun = .next (s.runRow cp cw d) := by
  rw [State.fetchAndRun, h]

/-- Operands that decode leave the fault to the rest of the tag list. -/
theorem decodeOperands_append_error {limit : Option Nat} {src : Source} {pre rest : List (BitVec 4)} {a q : Nat}
    {os : List Operand} {f : DecodeFault} (hpre : decodeOperands limit src pre a = .ok (os, q))
    (hrest : decodeOperands limit src rest q = .error f) : decodeOperands limit src (pre ++ rest) a = .error f := by
  induction pre generalizing a os with
  | nil =>
    simp only [decodeOperands, Except.ok.injEq, Prod.mk.injEq] at hpre
    obtain ⟨-, rfl⟩ := hpre
    exact hrest
  | cons c cs ih =>
    simp only [List.cons_append, decodeOperands] at hpre ⊢
    cases ho : decodeOperand limit src c a with
    | error g => simp [ho] at hpre
    | ok op =>
      simp only [ho] at hpre ⊢
      cases hcs : decodeOperands limit src cs op.2 with
      | error g => simp [hcs] at hpre
      | ok osq =>
        simp only [hcs, Except.ok.injEq, Prod.mk.injEq] at hpre
        obtain ⟨-, rfl⟩ := hpre
        simp only [ih hcs]

/-- An invalid tag code faults where it is reached, before any byte is read (60_exceptions R303). -/
theorem decodeOperands_invalid_code (limit : Option Nat) (src : Source) {c : BitVec 4} (cs : List (BitVec 4)) (a : Nat)
    (hc : 11 ≤ c.toNat) : decodeOperands limit src (c :: cs) a = .error (.badTag a c) := by
  simp only [decodeOperands, decodeOperand, Tag.ofCode_eq_none.2 hc]

/-- A fault among a row's operands is taken with the row's codepoint. -/
theorem runRow_of_operand_fault {s : State} {cp : Codepoint} {cw p : Nat} {d : Descriptor} {f : DecodeFault}
    (hck : checkOpcode s.params.memSize s.pc cw = .ok p)
    (hd : decodeOperands s.params.indexChainLimit s.source d.tags p = .error f) :
    s.runRow cp cw d = s.takeFault s.pc ⟨f, some cp⟩ := by
  simp only [State.runRow, hck, resolveOperands_eq, hd]

theorem faultRegsOf_start (free : BitVec 32) (start : Nat) (f : InstrFault) :
    (faultRegsOf free start f).start = BitVec.ofNat 32 start := by
  obtain ⟨g, cp⟩ := f
  cases g <;> rfl

theorem toNat_faultAddrWord (free : BitVec 32) {addr : Nat} (h : addr < 2 ^ 32) :
    (faultAddrWord free addr).toNat = addr := by
  rw [faultAddrWord, if_pos h, BitVec.toNat_ofNat, Nat.mod_eq_of_lt h]

/-- FAULT_START holds the start of an instruction below the end of the code segment (log entry 14). -/
theorem toNat_faultRegsOf_start {s : State} (free : BitVec 32) (f : InstrFault) (h : s.pc < s.csegSize.toNat) :
    (faultRegsOf free s.pc f).start.toNat = s.pc := by
  rw [faultRegsOf_start, BitVec.toNat_ofNat, Nat.mod_eq_of_lt (h.trans s.csegSize.isLt)]

/-- Settles O36. -/
theorem malformedDescriptorTakesBadTag : Obligations.MalformedDescriptorTakesBadTag := by
  intro s cp cw p q m pre post c ops hin hp hpc hop hpre hc
  have hck : checkOpcode s.params.memSize s.pc cw = .ok p :=
    fetchOpcode_check (fetchOpcode_of_decodeOpcode_otherRow hop)
  have hfault : decodeOperands s.params.indexChainLimit s.source (pre ++ c :: post) p = .error (.badTag q c) :=
    decodeOperands_append_error hpre (decodeOperands_invalid_code _ _ post q hc)
  refine ⟨s.takeFault s.pc ⟨.badTag q c, some cp⟩, ?_, rfl, rfl, rfl, rfl, toNat_faultAddrWord _, rfl,
    toNat_faultRegsOf_start _ _ hpc, rfl, rfl, rfl⟩
  rw [step_fetch hin hp hpc, fetchAndRun_otherRow hop, runRow_of_operand_fault hck hfault]

/-! ### One operand a step -/

section
variable {s : State} {d : Descriptor}

theorem operandStep_last (hd : s.desc = some d) (hk : d.tags[s.k]? = none) :
    s.operandStep = .next { s with phase := .emit, out := some s.formRecord } := by
  simp only [State.operandStep, hd, hk]

theorem operandStep_ok {c : BitVec 4} {r : OperandRecord} {p : Nat} (hd : s.desc = some d)
    (hk : d.tags[s.k]? = some c) (hr : resolveOperand s.params.indexChainLimit s.source c s.pc = .ok (r, p)) :
    s.operandStep = .next { s with pc := p, k := s.k + 1, ops := s.ops ++ [r] } := by
  simp only [State.operandStep, hd, hk, hr]

theorem operandStep_error {c : BitVec 4} {f : DecodeFault} (hd : s.desc = some d) (hk : d.tags[s.k]? = some c)
    (hr : resolveOperand s.params.indexChainLimit s.source c s.pc = .error f) :
    s.operandStep = .next (s.takeFault s.start ⟨f, some s.cp⟩) := by
  simp only [State.operandStep, hd, hk, hr]

end

/-- In IDLE, DONE and FAULT the machine stays where it is for any number of steps. -/
theorem stepN_stopped {s : State} (n : Nat) (hin : s.inputs = []) (hp : s.phase.running = false) :
    stepN n s = .next s := by
  have hstep : step s = .next s := by
    rw [step_engine hin, State.engineStep]
    cases h : s.phase <;> simp [h, Phase.running] at hp ⊢
  induction n with
  | zero => rfl
  | succ n ih => rw [stepN_succ hstep, ih]

/-- DECODE_OPERANDS in the instruction that starts at the `pc` of `s`, with the operands `ops` decoded and the next one
at `p`. -/
def State.atOperand (s : State) (cp : Codepoint) (cw : Nat) (d : Descriptor) (p : Nat) (ops : List OperandRecord) :
    State :=
  { s with
    phase := .decodeOperands, pc := p, start := s.pc, cp := cp, cw := cw, desc := some d, k := ops.length, ops := ops }

/-- The end of an instruction with the operands `ops` decoded, by what decoding the others answers. -/
def State.finishOperands (s : State) (cp : Codepoint) (cw : Nat) (d : Descriptor) (ops : List OperandRecord) :
    Except DecodeFault (List OperandRecord × Nat) → State
  | .error f => s.takeFault s.pc ⟨f, some cp⟩
  | .ok (rs, q) => s.present q cp cw (some d) (ops ++ rs)

theorem runRow_eq_finishOperands {s : State} {cw p : Nat} (cp : Codepoint) (d : Descriptor)
    (h : checkOpcode s.params.memSize s.pc cw = .ok p) :
    s.runRow cp cw d =
      s.finishOperands cp cw d [] (resolveOperands s.params.indexChainLimit s.source d.tags p) := by
  simp only [State.runRow, h]
  cases resolveOperands s.params.indexChainLimit s.source d.tags p <;> rfl

section
variable {s : State} {cp : Codepoint} {cw p : Nat} {d : Descriptor} {ops : List OperandRecord}

theorem step_atOperand (hin : s.inputs = []) :
    step (s.atOperand cp cw d p ops) = (s.atOperand cp cw d p ops).operandStep :=
  step_engine hin

/-- After the last operand the record is formed. -/
theorem step_atOperand_last (hin : s.inputs = []) (hk : d.tags[ops.length]? = none) :
    step (s.atOperand cp cw d p ops) = .next (s.present p cp cw (some d) ops) :=
  (step_atOperand hin).trans (operandStep_last rfl hk)

theorem step_atOperand_ok {c : BitVec 4} {r : OperandRecord} {q : Nat} (hin : s.inputs = [])
    (hk : d.tags[ops.length]? = some c)
    (hr : resolveOperand s.params.indexChainLimit s.source c p = .ok (r, q)) :
    step (s.atOperand cp cw d p ops) = .next (s.atOperand cp cw d q (ops ++ [r])) := by
  have hnext := (step_atOperand hin).trans (operandStep_ok (s := s.atOperand cp cw d p ops) rfl hk hr)
  simpa [State.atOperand] using hnext

theorem step_atOperand_error {c : BitVec 4} {f : DecodeFault} (hin : s.inputs = [])
    (hk : d.tags[ops.length]? = some c)
    (hr : resolveOperand s.params.indexChainLimit s.source c p = .error f) :
    step (s.atOperand cp cw d p ops) = .next (s.takeFault s.pc ⟨f, some cp⟩) :=
  (step_atOperand hin).trans (operandStep_error (s := s.atOperand cp cw d p ops) rfl hk hr)

end

/-- From any operand of a row on, the steps of DECODE_OPERANDS end as decoding the remaining tags `cs` does. -/
theorem stepN_atOperand {s : State} (hin : s.inputs = []) (cp : Codepoint) (cw : Nat) (d : Descriptor)
    (cs : List (BitVec 4)) (ops : List OperandRecord) (p : Nat) (hcs : d.tags.drop ops.length = cs) :
    stepN (cs.length + 1) (s.atOperand cp cw d p ops) =
      .next (s.finishOperands cp cw d ops (resolveOperands s.params.indexChainLimit s.source cs p)) := by
  induction cs generalizing ops p with
  | nil =>
    have hlast : d.tags[ops.length]? = none := List.getElem?_eq_none (List.drop_eq_nil_iff.1 hcs)
    rw [List.length_nil, stepN_succ (step_atOperand_last hin hlast)]
    simp [stepN, resolveOperands, State.finishOperands]
  | cons c cs ih =>
    have hc : d.tags[ops.length]? = some c := by rw [← List.head?_drop, hcs]; rfl
    simp only [List.length_cons, resolveOperands]
    cases hr : resolveOperand s.params.indexChainLimit s.source c p with
    | error f => exact (stepN_succ (step_atOperand_error hin hc hr)).trans (stepN_stopped _ hin rfl)
    | ok rq =>
      obtain ⟨r, q⟩ := rq
      have hdrop : d.tags.drop (ops ++ [r]).length = cs := by
        rw [List.length_append, ← List.drop_drop, hcs]; rfl
      rw [stepN_succ (step_atOperand_ok hin hc hr), ih (ops ++ [r]) q hdrop]
      cases hrs : resolveOperands s.params.indexChainLimit s.source cs q with
      | error f => simp only [hrs, State.finishOperands]
      | ok rse => simp [hrs, State.finishOperands]

/-- Settles O42, by induction on the tags still to decode. -/
theorem operandStepsReachTheOneStepInstruction : Obligations.OperandStepsReachTheOneStepInstruction := by
  intro s cp cw p d hin hck
  rw [runRow_eq_finishOperands cp d hck]
  exact stepN_atOperand hin cp cw d d.tags [] p rfl

/-! ### pc only advances -/

/-- A decoded operand takes at least one byte and ends within memory. -/
theorem resolveOperand_stop {limit : Option Nat} {src : Source} {c : BitVec 4} {a p : Nat} {r : OperandRecord}
    (h : resolveOperand limit src c a = .ok (r, p)) : a < p ∧ p ≤ src.size := by
  unfold resolveOperand at h
  cases hd : decodeOperand limit src c a with
  | error f => simp [hd] at h
  | ok oq =>
    obtain ⟨o, q⟩ := oq
    simp only [hd, Except.ok.injEq, Prod.mk.injEq] at h
    obtain ⟨-, rfl⟩ := h
    obtain ⟨-, -, rfl, hholds, -⟩ := decodeOperand_ok hd
    exact ⟨Nat.lt_add_of_pos_right (encodeOperand_pos o), hholds.1⟩

/-- Settles O46: `pc` is moved by a record and by an operand alone, to its end. -/
theorem pcOnlyAdvances : Obligations.PcOnlyAdvances := by
  intro s t hin h ht
  rw [step_engine hin] at h
  rcases engineStep_cases h with ⟨hstop, rfl⟩ | ⟨hp, -, rfl⟩ | ⟨hp, -, hfetch⟩ | ⟨hp, d, -, hops⟩ | ⟨hp, hemit⟩
  · refine ⟨le_rfl, fun hne => absurd rfl hne, fun hf he => ?_⟩
    simp [hf] at he
  · exact ⟨le_rfl, fun hne => absurd rfl hne, fun _ he => by cases he⟩
  · rw [fetchAndRun_eq_afterDecode, Host.Outcome.next.injEq] at hfetch
    subst hfetch
    cases hd : decodeInstruction s.params s.mem s.pc with
    | error f => exact absurd (by simp [hd, State.afterDecode]) ht
    | ok r =>
      obtain ⟨hlt, hle⟩ := decodeInstruction_stop hd
      exact ⟨hlt.le, fun _ => hle, fun _ _ => hlt⟩
  · rcases hops with ⟨-, rfl⟩ | ⟨c, -, ⟨f, -, rfl⟩ | ⟨r, p, hr, rfl⟩⟩
    · exact ⟨le_rfl, fun hne => absurd rfl hne, fun hf => by simp [hp] at hf⟩
    · exact absurd rfl ht
    · obtain ⟨hlt, hle⟩ := resolveOperand_stop hr
      exact ⟨hlt.le, fun _ => hle, fun hf => by simp [hp] at hf⟩
  · have hpc : t.pc = s.pc := by
      rcases hemit with ⟨-, rfl⟩ | ⟨r, -, ⟨-, rfl⟩ | ⟨-, rfl⟩⟩ <;> rfl
    exact ⟨hpc.ge, fun hne => absurd hpc hne, fun hf => by simp [hp] at hf⟩

/-! ### The registers the engine does not read -/

/-- The state with other values in x[0] to x[14] and LOAD_ERR. -/
def State.withUnread (s : State) (y : Vector (BitVec 32) 15) (b : Bool) : State := { s with x := y, loadErr := b }

section
variable {s t : State} (y : Vector (BitVec 32) 15) (b : Bool)

theorem afterDecode_withUnread (r : Except InstrFault Record) :
    (s.withUnread y b).afterDecode r = (s.afterDecode r).withUnread y b := by
  cases r <;> rfl

theorem fetchAndRun_withUnread (h : s.fetchAndRun = .next t) :
    (s.withUnread y b).fetchAndRun = .next (t.withUnread y b) := by
  rw [fetchAndRun_eq_afterDecode, Host.Outcome.next.injEq] at h ⊢
  rw [afterDecode_withUnread, ← h]
  rfl

theorem operandStep_withUnread (h : s.operandStep = .next t) :
    (s.withUnread y b).operandStep = .next (t.withUnread y b) := by
  cases hd : s.desc with
  | none => simp [State.operandStep, hd] at h
  | some d =>
    cases hk : d.tags[s.k]? with
    | none =>
      rw [operandStep_last hd hk, Host.Outcome.next.injEq] at h
      rw [← h]
      exact operandStep_last hd hk
    | some c =>
      cases hr : resolveOperand s.params.indexChainLimit s.source c s.pc with
      | error f =>
        rw [operandStep_error hd hk hr, Host.Outcome.next.injEq] at h
        rw [← h]
        exact operandStep_error (s := s.withUnread y b) hd hk hr
      | ok rp =>
        rw [operandStep_ok hd hk hr, Host.Outcome.next.injEq] at h
        rw [← h]
        exact operandStep_ok (s := s.withUnread y b) hd hk hr

theorem emitStep_withUnread : (s.withUnread y b).emitStep = s.emitStep.withUnread y b := by
  have hout : (s.withUnread y b).out = s.out := rfl
  have hready : (s.withUnread y b).ready = s.ready := rfl
  unfold State.emitStep
  rw [hout, hready]
  split
  · rfl
  · split <;> rfl

theorem engineStep_withUnread (h : s.engineStep = .next t) :
    (s.withUnread y b).engineStep = .next (t.withUnread y b) := by
  have hphase : (s.withUnread y b).phase = s.phase := rfl
  unfold State.engineStep at h ⊢
  rw [hphase]
  cases hp : s.phase with
  | idle | done | fault =>
    simp only [hp, Host.Outcome.next.injEq] at h
    rw [h]
  | fetchOpcode =>
    simp only [hp] at h
    by_cases hend : s.csegSize.toNat ≤ s.pc
    · rw [if_pos hend, Host.Outcome.next.injEq] at h
      rw [← h]
      exact if_pos hend
    · rw [if_neg hend] at h
      exact (if_neg hend).trans (fetchAndRun_withUnread y b h)
  | decodeOperands =>
    simp only [hp] at h
    exact operandStep_withUnread y b h
  | emit =>
    simp only [hp, Host.Outcome.next.injEq] at h
    rw [← h, ← emitStep_withUnread]

end

/-- Settles O47, phase by phase. -/
theorem generalRegistersHaveNoInfluence : Obligations.GeneralRegistersHaveNoInfluence := by
  intro s t y b hin h
  rw [step_engine hin] at h
  exact (step_engine (s := s.withUnread y b) hin).trans (engineStep_withUnread y b h)

/-! ### Tags, reset and the register map -/

/-- Settles O24: the table of 10_state R53, entry by entry. -/
theorem tagCodesClassesAndWidths : Obligations.TagCodesClassesAndWidths := by
  refine ⟨?_, fun c hc => Tag.ofCode_eq_none.2 hc⟩
  simp [Tag.ofCode_eq_some, Tag.code, Tag.isGeneral, Tag.width, floatSuffix]

/-- The number of a bit vector put above another. -/
theorem toNat_append_eq_add {m n : Nat} (x : BitVec m) (y : BitVec n) :
    (x ++ y).toNat = x.toNat * 2 ^ n + y.toNat := by
  rw [BitVec.toNat_append, ← Nat.shiftLeft_add_eq_or_of_lt y.isLt, Nat.shiftLeft_eq]

theorem toNat_ofBool_eq_ite (b : Bool) : (BitVec.ofBool b).toNat = if b = true then 1 else 0 := by
  cases b <;> rfl

/-- STATUS is the sum of its fields at their bits (10_state R50). -/
theorem toNat_statusWord (s : State) :
    s.statusWord.toNat =
      s.phase.stateCode.toNat + 16 * s.faultRegs.cause.code.toNat + 256 * (if s.loadErr = true then 1 else 0) := by
  simp only [State.statusWord, toNat_append_eq_add, toNat_ofBool_eq_ite, BitVec.ofNat_eq_ofNat,
    BitVec.toNat_ofNat, Nat.zero_mod]
  omega

/-- FAULT_INFO is the sum of its fields at their bits (10_state R50). -/
theorem toNat_faultInfoWord (s : State) :
    s.faultInfoWord.toNat =
      s.faultRegs.cp.toNat + 2 ^ 16 * (if s.faultRegs.cpv = true then 1 else 0) + 2 ^ 20 * s.faultRegs.tag.toNat := by
  simp only [State.faultInfoWord, toNat_append_eq_add, toNat_ofBool_eq_ite, BitVec.ofNat_eq_ofNat,
    BitVec.toNat_ofNat, Nat.zero_mod]
  omega

/-- Every host register reads 0 after reset (10_state R59). -/
theorem hostRead_hostReset (s : State) (reg : HostReg) : s.hostReset.hostRead reg = 0 := by
  have hstatus : s.hostReset.statusWord.toNat = 0 := by rw [toNat_statusWord]; rfl
  have hinfo : s.hostReset.faultInfoWord.toNat = 0 := by rw [toNat_faultInfoWord]; rfl
  cases reg with
  | status => exact BitVec.eq_of_toNat_eq hstatus
  | faultInfo => exact BitVec.eq_of_toNat_eq hinfo
  | csegSize | control | faultAddr | faultSize | faultStart => rfl

/-- The state after reset is one that reset leaves as it is. -/
theorem hostReset_reset : State.reset.hostReset = State.reset := rfl

/-- Settles O49: `State.reset` is the reset of itself, and each field of a reset is its reset value. -/
theorem resetGivesTheResetValues : Obligations.ResetGivesTheResetValues := by
  intro s t h
  have ht : t = s.hostReset := by
    rcases h with rfl | ⟨rfl, rfl⟩
    · rfl
    · exact hostReset_reset.symm
  subst ht
  exact ⟨Memory.read_zero, fun j => by simp, rfl, rfl, hostRead_hostReset s, rfl, rfl, rfl, rfl, rfl, rfl, rfl, rfl,
    rfl, rfl, fun _ => rfl⟩

/-- Settles O52: STATUS and FAULT_INFO are the sums of their fields, the other registers their fields. -/
theorem hostReadsTheRegisterMap : Obligations.HostReadsTheRegisterMap := by
  refine ⟨rfl, fun s => ⟨?_, toNat_faultInfoWord s, rfl, rfl, rfl, ?_, rfl⟩⟩
  · have hstate : s.phase.stateCode.toNat =
        (match s.phase with
          | .idle => 0 | .fetchOpcode => 1 | .decodeOperands => 1 | .emit => 1 | .done => 2 | .fault => 3) := by
      cases s.phase <;> rfl
    have hcause : s.faultRegs.cause.code.toNat =
        (match s.faultRegs.cause with | .none => 0 | .oob => 1 | .badTag => 2 | .indexChain => 3 | .badMode => 4) := by
      cases s.faultRegs.cause <;> rfl
    exact (toNat_statusWord s).trans
      (congrArg₂ (fun state cause => state + 16 * cause + 256 * (if s.loadErr = true then 1 else 0)) hstate hcause)
  · exact BitVec.toNat_setWidth_of_le (by decide)

/-- Settles O53, register by register. -/
theorem hostWritesTheRegisterMap : Obligations.HostWritesTheRegisterMap := by
  intro s v
  refine ⟨fun reg hcseg hcontrol => ?_, fun hrun => if_pos hrun, fun hstop => if_neg (by simp [hstop]),
    fun hv => if_neg (by rw [hv]; simp)⟩
  cases reg with
  | csegSize => exact absurd rfl hcseg
  | control => exact absurd rfl hcontrol
  | status | faultAddr | faultSize | faultStart | faultInfo => rfl

end Sys2Proof.Machine

/-! Proofs of the statements about MEM (20_memory): what a read answers, what writes MEM and what does not, and how an
instruction that runs past the end of memory ends. -/
namespace Sys2Proof.Machine

/-! ### A read is the little-endian sum of its bytes -/

theorem Source.le_eq_sum (src : Source) (n a : Nat) :
    src.le n a = ∑ j ∈ Finset.range n, (src.byte (a + j)).toNat * 2 ^ (8 * j) := by
  induction n generalizing a with
  | zero => rfl
  | succ n ih =>
    have hshift : ∀ j, (src.byte (a + (j + 1))).toNat * 2 ^ (8 * (j + 1)) =
        256 * ((src.byte (a + 1 + j)).toNat * 2 ^ (8 * j)) := by
      intro j
      rw [show a + (j + 1) = a + 1 + j by omega, show 8 * (j + 1) = 8 * j + 8 by omega, pow_add]
      ring
    rw [Source.le, ih, Finset.sum_range_succ', Finset.sum_congr rfl (fun j _ => hshift j), ← Finset.mul_sum]
    simp [add_comm]

/-- Settles O31. -/
theorem fetchReadsLittleEndianWithinMemory : Obligations.FetchReadsLittleEndianWithinMemory :=
  fun src n a => ⟨fun h => by rw [Source.fetch_of_le h, Source.le_eq_sum], fun h => Source.fetch_of_lt h⟩

/-! ### A host load -/

theorem State.load_rejected {s : State} {offset : Nat} {bytes : List Byte}
    (h : s.phase.running = true ∨ s.params.memSize < offset + bytes.length) :
    s.load offset bytes = { s with loadErr := true } :=
  if_pos (by simpa using h)

theorem State.load_taken {s : State} {offset : Nat} {bytes : List Byte}
    (h : ¬ (s.phase.running = true ∨ s.params.memSize < offset + bytes.length)) :
    s.load offset bytes = { s with mem := s.mem.writeBytes offset bytes, loadErr := false } :=
  if_neg (by simpa using h)

/-- Settles O51. -/
theorem loadIsTakenWholeOrRejectedWhole : Obligations.LoadIsTakenWholeOrRejectedWhole := by
  intro s offset bytes hwf
  split
  · next h => exact State.load_rejected h
  · next h =>
    rw [State.load_taken h]
    exact ⟨rfl, fun a => s.mem.read_writeBytes offset bytes a hwf⟩

/-! ### The transactions of an image -/

/-- The four bytes of a list from `i` on. -/
theorem take_four_drop {l : List Byte} {i : Nat} (h : i + 4 ≤ l.length) :
    (l.drop i).take 4 = [l.getD i 0, l.getD (i + 1) 0, l.getD (i + 2) 0, l.getD (i + 3) 0] := by
  rw [List.drop_eq_getElem_cons (by omega), List.drop_eq_getElem_cons (by omega), List.drop_eq_getElem_cons (by omega),
    List.drop_eq_getElem_cons (by omega)]
  simp (disch := omega) only [List.take_succ_cons, List.take_zero, List.getD_eq_getElem]

/-- CSEG_SIZE of an image: the number of its bytes 4 to 7 (20_memory R100). -/
theorem toNat_ofNat_leValue_four (b0 b1 b2 b3 : Byte) :
    (BitVec.ofNat 32 (leValue [b0, b1, b2, b3])).toNat =
      b0.toNat + 2 ^ 8 * b1.toNat + 2 ^ 16 * b2.toNat + 2 ^ 24 * b3.toNat := by
  simp only [leValue, BitVec.toNat_ofNat]
  omega

/-- The state that an image's transactions lead to when its load is taken. -/
theorem serve_imageInputs {s : State} {image : List Byte} (hstop : s.phase.running = false) (hlen : 8 ≤ image.length)
    (hfits : (image.drop 0x20).length ≤ s.params.memSize) :
    (imageInputs image).foldl State.serve s =
      ({ s with
          mem := s.mem.writeBytes 0 (image.drop 0x20)
          csegSize := BitVec.ofNat 32 (leValue ((image.drop 4).take 4))
          loadErr := false } : State).startRun := by
  have hload : ¬ (s.phase.running = true ∨ s.params.memSize < 0 + (image.drop 0x20).length) := by
    simpa [hstop] using hfits
  rw [imageInputs, if_neg (by omega)]
  simp only [List.foldl_cons, List.foldl_nil, State.serve, State.load_taken hload, State.hostWrite, hstop,
    Bool.false_eq_true, if_false]
  exact if_pos rfl

/-- Settles O54: the load, the size and START, one after another. -/
theorem imageTransactionsBootTheRun : Obligations.ImageTransactionsBootTheRun := by
  intro s image hstop hwf hlen hfits t
  have hdrop : (image.drop 0x20).length = image.length - 0x20 := List.length_drop
  have ht : t = _ := serve_imageInputs hstop hlen (hdrop ▸ hfits)
  rw [ht]
  refine ⟨rfl, rfl, rfl, ?_, fun a => ?_⟩
  · rw [State.startRun_csegSize, take_four_drop (by omega)]
    exact toNat_ofNat_leValue_four _ _ _ _
  · rw [State.startRun_mem, Memory.read_writeBytes _ _ _ _ hwf, hdrop]
    simp [List.getD_eq_getElem?_getD]

/-! ### What a step leaves unchanged -/

/-- The engine writes no MEM, CSEG_SIZE, general register, LOAD_ERR or parameter (20_memory R83, 10_state R42). -/
theorem engineStep_frame {s t : State} (h : s.engineStep = .next t) :
    t.mem = s.mem ∧ t.csegSize = s.csegSize ∧ t.x = s.x ∧ t.loadErr = s.loadErr ∧ t.params = s.params := by
  rcases engineStep_cases h with ⟨-, rfl⟩ | ⟨-, -, rfl⟩ | ⟨-, -, hfetch⟩ | ⟨-, d, -, hops⟩ | ⟨-, hemit⟩
  · exact ⟨rfl, rfl, rfl, rfl, rfl⟩
  · exact ⟨rfl, rfl, rfl, rfl, rfl⟩
  · rw [fetchAndRun_eq_afterDecode, Host.Outcome.next.injEq] at hfetch
    subst hfetch
    cases decodeInstruction s.params s.mem s.pc <;> exact ⟨rfl, rfl, rfl, rfl, rfl⟩
  · rcases hops with ⟨-, rfl⟩ | ⟨c, -, ⟨f, -, rfl⟩ | ⟨r, p, -, rfl⟩⟩ <;> exact ⟨rfl, rfl, rfl, rfl, rfl⟩
  · rcases hemit with ⟨-, rfl⟩ | ⟨r, -, ⟨-, rfl⟩ | ⟨-, rfl⟩⟩ <;> exact ⟨rfl, rfl, rfl, rfl, rfl⟩

/-- Settles O45: a step is the engine's, or an input that a run keeps out of MEM. -/
theorem memoryIsConstantDuringARun : Obligations.MemoryIsConstantDuringARun := by
  refine ⟨fun s t hin h => engineStep_frame (step_engine hin ▸ h), fun s t e rest hrun hin he h => ?_⟩
  rcases step_cases h with ⟨-, heng⟩ | ⟨e', rest', hin', ⟨-, heng⟩ | ⟨-, rfl⟩⟩
  · obtain ⟨hmem, hcseg, -, -, hparams⟩ := engineStep_frame heng
    exact ⟨hmem, hcseg, hparams⟩
  · obtain ⟨hmem, hcseg, -, -, hparams⟩ := engineStep_frame heng
    exact ⟨hmem, hcseg, hparams⟩
  · obtain ⟨rfl, rfl⟩ : e = e' ∧ rest = rest' := by simpa [hin] using hin'
    obtain ⟨b, r, hserve⟩ := serve_running (s := { s with inputs := rest }) hrun he
    rw [hserve]
    exact ⟨rfl, rfl, rfl⟩

/-! ### Decoding from more memory -/

/-- `big` holds the bytes of `src`, and perhaps more after them. -/
def SourceExtends (src big : Source) : Prop :=
  src.size ≤ big.size ∧ ∀ a, a < src.size → big.byte a = src.byte a

/-- The answer of a read that the end of memory cut off. -/
def CutOff {α : Type} (r : Except DecodeFault α) : Prop := ∃ addr n, r = .error (.oob addr n)

theorem SourceExtends.le {src big : Source} (hx : SourceExtends src big) {n a : Nat} (h : a + n ≤ src.size) :
    big.le n a = src.le n a := by
  induction n generalizing a with
  | zero => rfl
  | succ n ih => rw [Source.le, Source.le, hx.2 a (by omega), ih (by omega)]

section
variable {src big : Source} (hx : SourceExtends src big)
include hx

/-- A read that the end of memory does not cut off answers the same from more memory. -/
theorem fetch_extends (n a : Nat) : CutOff (src.fetch n a) ∨ big.fetch n a = src.fetch n a := by
  by_cases h : a + n ≤ src.size
  · exact .inr (by rw [Source.fetch_of_le h, Source.fetch_of_le (h.trans hx.1), hx.le h])
  · exact .inl ⟨a, n, Source.fetch_of_lt (by omega)⟩

theorem decodeDisp_extends (w : DispWidth) (a : Nat) :
    CutOff (decodeDisp src w a) ∨ decodeDisp big w a = decodeDisp src w a := by
  rcases fetch_extends hx w.bytes a with ⟨addr, n, h⟩ | h
  · exact .inl ⟨addr, n, by simp only [decodeDisp, h]⟩
  · exact .inr (by simp only [decodeDisp, h])

/-- The same of a general specifier, class by class; more memory is more fuel. -/
theorem decodeSpecifier_extends (limit : Option Nat) (t : Tag) :
    ∀ {fuel fuel' : Nat} (depth a : Nat), fuel ≤ fuel' →
      CutOff (decodeSpecifier limit src t fuel depth a) ∨
        decodeSpecifier limit big t fuel' depth a = decodeSpecifier limit src t fuel depth a := by
  intro fuel
  induction fuel with
  | zero => exact fun depth a _ => .inl ⟨a, 1, rfl⟩
  | succ fuel ih =>
    intro fuel' depth a hfuel
    obtain ⟨fuel', rfl⟩ : ∃ m, fuel' = m + 1 := ⟨fuel' - 1, by omega⟩
    by_cases ha : a + 1 ≤ src.size
    · rw [decodeSpecifier_succ _ src _ _ _ _ ha, decodeSpecifier_succ _ big _ _ _ _ (ha.trans hx.1), hx.2 a ha]
      cases modeClass (src.byte a) with
      | shortLiteral | register | registerDeferred | autodecrement | autoincrement | autoincrementDeferred =>
        exact .inr rfl
      | indexed =>
        cases chainFull limit depth with
        | true => exact .inr rfl
        | false =>
          rcases ih (depth + 1) (a + 1) (Nat.le_of_succ_le_succ hfuel) with ⟨addr, n, h⟩ | h
          · exact .inl ⟨addr, n, by simp [h]⟩
          · exact .inr (by simp only [h])
      | immediate =>
        rcases fetch_extends hx t.width (a + 1) with ⟨addr, n, h⟩ | h
        · exact .inl ⟨addr, n, by simp only [h]⟩
        · exact .inr (by simp only [h])
      | absolute =>
        rcases fetch_extends hx 4 (a + 1) with ⟨addr, n, h⟩ | h
        · exact .inl ⟨addr, n, by simp only [h]⟩
        · exact .inr (by simp only [h])
      | displacement w deferred | pcRelative w deferred =>
        rcases decodeDisp_extends hx w (a + 1) with ⟨addr, n, h⟩ | h
        · exact .inl ⟨addr, n, by simp only [h]⟩
        · exact .inr (by simp only [h])
    · refine .inl ⟨a, 1, ?_⟩
      rw [decodeSpecifier, Source.fetch_of_lt (by omega)]

theorem decodeOperand_extends (limit : Option Nat) (c : BitVec 4) (a : Nat) :
    CutOff (decodeOperand limit src c a) ∨ decodeOperand limit big c a = decodeOperand limit src c a := by
  unfold decodeOperand
  split
  · exact .inr rfl
  · rcases fetch_extends hx 1 a with ⟨addr, n, h⟩ | h
    · exact .inl ⟨addr, n, by simp only [h]⟩
    · exact .inr (by simp only [h])
  · rcases fetch_extends hx 2 a with ⟨addr, n, h⟩ | h
    · exact .inl ⟨addr, n, by simp only [h]⟩
    · exact .inr (by simp only [h])
  · next t _ _ _ =>
    have hfuel : src.size - a ≤ big.size - a := Nat.sub_le_sub_right hx.1 a
    rcases decodeSpecifier_extends hx limit t 0 a hfuel with ⟨addr, n, h⟩ | h
    · exact .inl ⟨addr, n, by simp only [h]⟩
    · exact .inr (by simp only [h])

theorem decodeOperands_extends (limit : Option Nat) (cs : List (BitVec 4)) (a : Nat) :
    CutOff (decodeOperands limit src cs a) ∨ decodeOperands limit big cs a = decodeOperands limit src cs a := by
  induction cs generalizing a with
  | nil => exact .inr rfl
  | cons c cs ih =>
    simp only [decodeOperands]
    rcases decodeOperand_extends hx limit c a with ⟨addr, n, h⟩ | h
    · exact .inl ⟨addr, n, by simp only [h]⟩
    · rw [h]
      cases decodeOperand limit src c a with
      | error f => exact .inr rfl
      | ok op =>
        rcases ih op.2 with ⟨addr, n, hr⟩ | hr
        · exact .inl ⟨addr, n, by simp only [hr]⟩
        · exact .inr (by simp only [hr])

end

/-! ### An instruction cut off by the end of memory -/

/-- The bytes of `src` below `a`, and `bs` from there to the end. -/
def sourceWith (src : Source) (a : Nat) (bs : List Byte) : Source :=
  ⟨a + bs.length, fun b => if b < a then src.byte b else bs.getD (b - a) 0⟩

theorem holds_sourceWith (src : Source) (a : Nat) (bs : List Byte) : Holds (sourceWith src a bs) a bs :=
  ⟨le_rfl, fun j _ => by simp [sourceWith]⟩

/-- A memory that ends inside bytes that stand at `a` is the first part of one that holds them all. -/
theorem sourceExtends_sourceWith {src : Source} {a n : Nat} {bs : List Byte} (hsize : src.size = a + n)
    (hn : n ≤ bs.length) (h : ∀ j, j < n → src.byte (a + j) = bs.getD j 0) :
    SourceExtends src (sourceWith src a bs) := by
  refine ⟨by simp only [sourceWith]; omega, fun b hb => ?_⟩
  by_cases hba : b < a
  · exact if_pos hba
  · obtain ⟨j, rfl⟩ := Nat.exists_eq_add_of_le (Nat.le_of_not_lt hba)
    rw [h j (by omega)]
    simp [sourceWith]

/-- A read of one of the five widths, from `lo` on, that crosses the end of memory. -/
def CrossingRead (size lo addr n : Nat) : Prop :=
  lo ≤ addr ∧ addr ≤ size ∧ size < addr + n ∧ n ∈ [1, 2, 4, 8, 16]

/-- Operands of which memory holds only a first part fault at a read that crosses the end: in a memory that held them
all they would decode, past the end of this one. -/
theorem decodeOperands_cutOff {limit : Option Nat} {src big : Source} {os : List Operand} {p : Nat}
    (hx : SourceExtends src big) (wf : os.all Operand.wellFormed = true)
    (ch : os.all (fun o => chainAllowed limit o.indexBytes) = true) (h : Holds big p (os.flatMap encodeOperand))
    (hp : p ≤ src.size) (hcut : src.size < p + (os.flatMap encodeOperand).length) :
    ∃ addr n, decodeOperands limit src ((os.map Operand.tag).map Tag.code) p = .error (.oob addr n) ∧
      CrossingRead src.size p addr n := by
  have hbig := decodeOperands_encode limit big os p wf ch h
  rcases decodeOperands_extends hx limit ((os.map Operand.tag).map Tag.code) p with ⟨addr, n, hoob⟩ | hsame
  · refine ⟨addr, n, hoob, ?_⟩
    rcases decodeOperands_error hoob with ⟨_, _, -, -, hf, -⟩ | ⟨_, _, hf, hlo, hhi, hcross, hn⟩ | ⟨_, hf, -⟩
    · cases hf
    · cases hf; exact ⟨hlo, hhi hp, hcross, hn⟩
    · cases hf
  · obtain ⟨-, -, -, hholds, -⟩ := decodeOperands_ok hp (hsame.symm.trans hbig)
    exact absurd hholds.1 (by omega)

theorem length_encodeOpcode (cp : Codepoint) : (encodeOpcode cp).length = opcodeWidth cp := by
  unfold encodeOpcode opcodeWidth
  split <;> rfl

theorem opcodeWidth_one_or_two (cp : Codepoint) : opcodeWidth cp = 1 ∨ opcodeWidth cp = 2 := by
  unfold opcodeWidth
  split <;> simp

/-- An instruction of which memory holds only the first `n` bytes takes F_OOB at a read that crosses the end, with its
codepoint once the opcode field is read whole. -/
theorem runInstr_cutOff {x : AsmInstr} {s : State} {n : Nat} (wf : x.wellFormed = true)
    (ch : x.withinChainLimit s.params.indexChainLimit = true) (hn : n < (encode x).length)
    (hsize : s.params.memSize = s.pc + n) (hbytes : ∀ j, j < n → s.mem.read (s.pc + j) = (encode x).getD j 0) :
    ∃ addr k, CrossingRead s.params.memSize s.pc addr k ∧
      s.runInstr x.instr.codepoint (opcodeWidth x.instr.codepoint) x.instr.mnemonic x.instr.tags =
        s.takeFault s.pc
          ⟨.oob addr k, if opcodeWidth x.instr.codepoint ≤ n then some x.instr.codepoint else none⟩ := by
  have hcw := opcodeWidth_one_or_two x.instr.codepoint
  by_cases hop : opcodeWidth x.instr.codepoint ≤ n
  · simp only [AsmInstr.wellFormed, Bool.and_eq_true, decide_eq_true_eq] at wf
    obtain ⟨htags, wfops⟩ := wf
    have hx : SourceExtends s.source (sourceWith s.source s.pc (encode x)) :=
      sourceExtends_sourceWith hsize hn.le hbytes
    obtain ⟨-, hops⟩ := holds_append.1 (holds_sourceWith s.source s.pc (encode x))
    rw [encode, List.length_append, length_encodeOpcode] at hn
    rw [length_encodeOpcode] at hops
    obtain ⟨addr, k, hdec, hlo, hcross⟩ := decodeOperands_cutOff hx wfops ch hops (by rw [State.source_size]; omega)
      (by rw [State.source_size]; omega)
    refine ⟨addr, k, ⟨by omega, hcross⟩, ?_⟩
    rw [htags] at hdec
    rw [if_pos hop]
    exact runRow_of_operand_fault (checkOpcode_of_le hcw (by omega)) hdec
  · rw [if_neg hop]
    cases hck : checkOpcode s.params.memSize s.pc (opcodeWidth x.instr.codepoint) with
    | ok p =>
      obtain ⟨-, hp, hpc⟩ := checkOpcode_ok hck
      omega
    | error f =>
      have htake : s.runInstr x.instr.codepoint (opcodeWidth x.instr.codepoint) x.instr.mnemonic x.instr.tags =
          s.takeFault s.pc ⟨f, none⟩ := by simp only [State.runInstr, State.runRow, hck]
      rcases checkOpcode_error hck with ⟨rfl, hle⟩ | ⟨rfl, heq, -⟩
      · exact ⟨s.pc, 1, ⟨le_rfl, by omega, by omega, by decide⟩, htake⟩
      · exact ⟨s.pc + 1, 1, ⟨by omega, by omega, by omega, by decide⟩, htake⟩

/-- FAULT_SIZE holds each of the five widths. -/
theorem toNat_ofNat_readWidth {n : Nat} (h : n ∈ [1, 2, 4, 8, 16]) : (BitVec.ofNat 5 n).toNat = n := by
  rw [BitVec.toNat_ofNat, Nat.mod_eq_of_lt]
  simp only [List.mem_cons, List.not_mem_nil, or_false] at h
  omega

/-- Settles O15. -/
theorem instructionCutOffByEndOfMemoryTakesOob : Obligations.InstructionCutOffByEndOfMemoryTakesOob := by
  intro x s n wf ch hn hsize hbytes hmem
  obtain ⟨addr, k, ⟨hlo, hhi, hcross, hk⟩, hrun⟩ := runInstr_cutOff wf ch hn hsize hbytes
  have haddr := toNat_faultAddrWord s.freeFaultAddr (hhi.trans_lt hmem)
  have hstart : (BitVec.ofNat 32 s.pc).toNat = s.pc := by
    rw [BitVec.toNat_ofNat, Nat.mod_eq_of_lt (by omega)]
  refine ⟨_, (exec_eq x.instr s).trans (congrArg _ hrun), rfl, rfl, hlo.trans_eq haddr.symm, haddr.trans_le hhi, ?_,
    hstart, rfl, ?_, rfl, rfl, rfl⟩
  · exact hcross.trans_eq (congrArg₂ (· + ·) haddr (toNat_ofNat_readWidth hk)).symm
  · rw [length_encodeOpcode]
    by_cases hop : opcodeWidth x.instr.codepoint ≤ n
    · rw [if_pos hop, if_pos hop]; exact ⟨rfl, rfl⟩
    · rw [if_neg hop, if_neg hop]; exact ⟨rfl, rfl⟩

end Sys2Proof.Machine

/-! Proofs of the statements about the encoding (30_encoding): decoding and encoding agree, and how many bytes an operand
takes. -/
namespace Sys2Proof.Laws

/-- The table's lookup by codepoint gives every instruction its own row back. -/
theorem OwnRow.all (i : Instr) : OwnRow.Statement i := by
  cases i
  open OwnRow in
  exacts [
    halt, nop, rei, bpt, ret, rsb, ldpctx, svpctx, cvtps, cvtsp, index, crc, prober, probew, insque, remque, bsbb,
    brb, bneq, beql, bgtr, bleq, jsb, jmp, bgeq, blss, bgtru, blequ, bvc, bvs, bgequ, blssu, addp4, addp6, subp4,
    subp6, cvtpt, mulp, cvttp, divp, movc3, cmpc3, scanc, spanc, movc5, cmpc5, movtc, movtuc, bsbw, brw, cvtwl,
    cvtwb, movp, cmpp3, cvtpl, cmpp4, editpc, matchc, locc, skpc, movzwl, acbw, movaw, pushaw, addf2, addf3, subf2,
    subf3, mulf2, mulf3, divf2, divf3, cvtfb, cvtfw, cvtfl, cvtrfl, cvtbf, cvtwf, cvtlf, acbf, movf, cmpf, mnegf,
    tstf, emodf, polyf, cvtfd, adawi, insqhi, insqti, remqhi, remqti, addd2, addd3, subd2, subd3, muld2, muld3,
    divd2, divd3, cvtdb, cvtdw, cvtdl, cvtrdl, cvtbd, cvtwd, cvtld, acbd, movd, cmpd, mnegd, tstd, emodd, polyd,
    cvtdf, ashl, ashq, emul, ediv, clrq, movq, movaq, pushaq, addb2, addb3, subb2, subb3, mulb2, mulb3, divb2,
    divb3, bisb2, bisb3, bicb2, bicb3, xorb2, xorb3, mnegb, caseb, movb, cmpb, mcomb, bitb, clrb, tstb, incb, decb,
    cvtbl, cvtbw, movzbl, movzbw, rotl, acbb, movab, pushab, addw2, addw3, subw2, subw3, mulw2, mulw3, divw2,
    divw3, bisw2, bisw3, bicw2, bicw3, xorw2, xorw3, mnegw, casew, movw, cmpw, mcomw, bitw, clrw, tstw, incw, decw,
    bispsw, bicpsw, popr, pushr, chmk, chme, chms, chmu, addl2, addl3, subl2, subl3, mull2, mull3, divl2, divl3,
    bisl2, bisl3, bicl2, bicl3, xorl2, xorl3, mnegl, casel, movl, cmpl, mcoml, bitl, clrl, tstl, incl, decl, adwc,
    sbwc, mtpr, mfpr, movpsl, pushl, moval, pushal, bbs, bbc, bbss, bbcs, bbsc, bbcc, bbssi, bbcci, blbs, blbc,
    ffs, ffc, cmpv, cmpzv, extv, extzv, insv, acbl, aoblss, aobleq, sobgeq, sobgtr, cvtlb, cvtlw, ashp, cvtlp,
    callg, calls, xfc, cvtdh, cvtgf, addg2, addg3, subg2, subg3, mulg2, mulg3, divg2, divg3, cvtgb, cvtgw, cvtgl,
    cvtrgl, cvtbg, cvtwg, cvtlg, acbg, movg, cmpg, mnegg, tstg, emodg, polyg, cvtgh, addh2, addh3, subh2, subh3,
    mulh2, mulh3, divh2, divh3, cvthb, cvthw, cvthl, cvtrhl, cvtbh, cvtwh, cvtlh, acbh, movh, cmph, mnegh, tsth,
    emodh, polyh, cvthg, clro, movo, movao, pushao, cvtfh, cvtfg, cvthf, cvthd]

end Sys2Proof.Laws

namespace Sys2Proof.Machine

/-! ### The opcode field, both ways -/

/-- An opcode field that stands encoded is fetched as the instruction's codepoint. -/
theorem fetchOpcode_encode {src : Source} {a : Nat} (i : Instr) (h : Holds src a (encodeOpcode i.codepoint)) :
    fetchOpcode 0xFD src a =
      .ok (i.codepoint, opcodeWidth i.codepoint, a + (encodeOpcode i.codepoint).length) := by
  obtain ⟨-, -, ⟨hlt, hne, henc⟩ | ⟨hge, hesc, henc⟩⟩ := Laws.OwnRow.all i
  · rw [henc, holds_cons] at h
    obtain ⟨ha, hb, -⟩ := h
    have hbyte : (src.byte a).toNat = i.codepoint.toNat := by
      rw [hb, BitVec.toNat_ofNat, Nat.mod_eq_of_lt hlt]
    have hplain : src.byte a ≠ 0xFD := fun he => hne (by rw [← hbyte, he]; rfl)
    rw [fetchOpcode_one ha hplain, hbyte, length_encodeOpcode, opcodeWidth, if_pos hlt, BitVec.ofNat_toNat,
      BitVec.setWidth_eq]
  · rw [henc, holds_cons, holds_cons] at h
    obtain ⟨-, hescByte, ha, hb, -⟩ := h
    have hcp : (0xFD : Byte).toNat * 256 + (src.byte (a + 1)).toNat = i.codepoint.toNat := by
      have hescNat : (0xFD : Byte).toNat = 0xFD := rfl
      rw [hb, BitVec.toNat_ofNat, hescNat]
      omega
    rw [fetchOpcode_two ha hescByte, hcp, length_encodeOpcode, opcodeWidth, if_neg hge.not_gt, BitVec.ofNat_toNat,
      BitVec.setWidth_eq]

/-- An opcode field that is fetched at its codepoint's own width stands encoded where it was read. -/
theorem holds_encodeOpcode_of_fetchOpcode {e : Byte} {src : Source} {a q : Nat} {cp : Codepoint}
    (h : fetchOpcode e src a = .ok (cp, opcodeWidth cp, q)) :
    q = a + (encodeOpcode cp).length ∧ Holds src a (encodeOpcode cp) := by
  obtain ⟨rfl, hq, hcp⟩ := fetchOpcode_ok h
  refine ⟨by rw [length_encodeOpcode], ?_⟩
  have hb := (src.byte a).isLt
  have hb' := (src.byte (a + 1)).isLt
  rcases hcp with ⟨hw, -, hcp⟩ | ⟨hw, he, hcp⟩
  · have hn : cp.toNat = (src.byte a).toNat := by rw [hcp, BitVec.toNat_ofNat]; omega
    rw [hw] at hq
    rw [encodeOpcode, if_pos (hn ▸ hb), hn, ofNat_toNat_byte]
    exact holds_cons.2 ⟨hq, rfl, holds_nil.2 hq⟩
  · have hn : cp.toNat = (src.byte a).toNat * 256 + (src.byte (a + 1)).toNat := by
      rw [hcp, he, BitVec.toNat_ofNat]; subst he; omega
    have hge : ¬ cp.toNat < 256 := fun hlt => by simp [opcodeWidth, hlt] at hw
    have hhigh : src.byte a = BitVec.ofNat 8 (cp.toNat / 256) := BitVec.eq_of_toNat_eq (by
      rw [BitVec.toNat_ofNat]; omega)
    have hlow : src.byte (a + 1) = BitVec.ofNat 8 cp.toNat := BitVec.eq_of_toNat_eq (by
      rw [BitVec.toNat_ofNat]; omega)
    rw [hw] at hq
    rw [encodeOpcode, if_neg hge]
    exact holds_cons.2 ⟨by omega, hhigh, holds_cons.2 ⟨hq, hlow, holds_nil.2 hq⟩⟩

/-! ### The instruction -/

/-- The default table selects an instruction at its own codepoint and opcode width. -/
theorem selectOpcode_codepoint {P : Params} (hP : P.optablePatch = []) (i : Instr) :
    selectOpcode P i.codepoint (opcodeWidth i.codepoint) = .known i := by
  obtain ⟨hrow, -⟩ := Laws.OwnRow.all i
  have hentry : P.patchEntry i.codepoint = none := by simp [Params.patchEntry, hP]
  simp [selectOpcode, hentry, hrow]

/-- The opcode phase reads back the instruction whose opcode field stands encoded. -/
theorem decodeOpcode_encode {P : Params} {src : Source} {a : Nat} (i : Instr) (he : P.escapeByte = 0xFD)
    (hP : P.optablePatch = []) (h : Holds src a (encodeOpcode i.codepoint)) :
    decodeOpcode P src a = .ok (.known i, a + (encodeOpcode i.codepoint).length) := by
  simp only [decodeOpcode, he, fetchOpcode_encode i h, selectOpcode_codepoint hP]

/-- The opcode phase that selects an instruction has read that instruction's opcode field. -/
theorem decodeOpcode_known {P : Params} {src : Source} {a p : Nat} {i : Instr}
    (h : decodeOpcode P src a = .ok (.known i, p)) :
    p = a + (encodeOpcode i.codepoint).length ∧ Holds src a (encodeOpcode i.codepoint) := by
  unfold decodeOpcode at h
  cases hf : fetchOpcode P.escapeByte src a with
  | error f => simp [hf] at h
  | ok x =>
    obtain ⟨cp, cw, q⟩ := x
    simp only [hf, Except.ok.injEq, Prod.mk.injEq] at h
    obtain ⟨hsel, rfl⟩ := h
    have hspec := selectOpcode_spec P cp cw
    rw [hsel] at hspec
    obtain ⟨rfl, rfl, -⟩ := hspec
    exact holds_encodeOpcode_of_fetchOpcode hf

/-- An instruction that is decoded: its opcode phase and its operands under its own tags. -/
theorem decodeInstr_known {P : Params} {src : Source} {a q : Nat} {x : AsmInstr}
    (h : decodeInstr P src a = .ok (.known x, q)) :
    ∃ p, decodeOpcode P src a = .ok (.known x.instr, p) ∧
      decodeOperands P.indexChainLimit src (x.instr.tags.map Tag.code) p = .ok (x.operands, q) := by
  unfold decodeInstr at h
  split at h
  · cases h
  · cases h
  · split at h <;> cases h
  · next i p hop =>
    split at h
    · cases h
    · next hd => cases h; exact ⟨p, hop, hd⟩

theorem tagCode_injective : Function.Injective Tag.code := fun t u h =>
  Option.some.inj (by rw [← Tag.ofCode_code, h, Tag.ofCode_code])

/-- Settles O25: the opcode field, then the operands one after another. -/
theorem decodeGivesBackEveryEncodedInstruction : Obligations.DecodeGivesBackEveryEncodedInstruction := by
  intro P src a x he hP wf ch h
  simp only [AsmInstr.wellFormed, Bool.and_eq_true, decide_eq_true_eq] at wf
  obtain ⟨htags, wfops⟩ := wf
  obtain ⟨hop, hops⟩ := holds_append.1 h
  have hdec := decodeOperands_encode P.indexChainLimit src x.operands _ wfops ch hops
  rw [htags] at hdec
  simp only [decodeInstr, decodeOpcode_encode x.instr he hP hop, hdec]
  rw [encode, List.length_append, Nat.add_assoc]

/-- Settles O26: the bytes of the opcode field, then those of the operands. -/
theorem encodeGivesBackTheDecodedBytes : Obligations.EncodeGivesBackTheDecodedBytes := by
  intro P src a q x h
  obtain ⟨p, hop, hops⟩ := decodeInstr_known h
  obtain ⟨rfl, hopHolds⟩ := decodeOpcode_known hop
  obtain ⟨hcodes, wfops, rfl, hopsHold, -⟩ := decodeOperands_ok hopHolds.1 hops
  have htags : x.operands.map Operand.tag = x.instr.tags := by
    refine List.map_injective_iff.2 tagCode_injective ?_
    rw [List.map_map]
    exact hcodes
  refine ⟨by simp [AsmInstr.wellFormed, htags, wfops], ?_, holds_append.2 ⟨hopHolds, hopsHold⟩⟩
  rw [encode, List.length_append, Nat.add_assoc]

/-! ### The least length -/

/-- The operand that zero bytes decode to under a tag: the short literal 0, or a displacement of 0. -/
def zeroOperand : Tag → Operand
  | .bdisp8 => .branch8 0
  | .bdisp16 => .branch16 0
  | t => .general t (.shortLiteral 0)

theorem zeroOperand_tag (t : Tag) : (zeroOperand t).tag = t := by cases t <;> rfl

theorem zeroOperand_wellFormed (t : Tag) : (zeroOperand t).wellFormed = true := by cases t <;> rfl

theorem zeroOperand_indexBytes (t : Tag) : (zeroOperand t).indexBytes = 0 := by cases t <;> rfl

theorem encodeOperand_zeroOperand (t : Tag) :
    encodeOperand (zeroOperand t) = List.replicate (if t = .bdisp16 then 2 else 1) 0 := by
  cases t <;> rfl

theorem chainAllowed_zero (limit : Option Nat) : chainAllowed limit 0 = true := by
  cases limit <;> simp [chainAllowed]

/-- The instruction with zero bytes for operands. -/
def zeroOperands (i : Instr) : AsmInstr := ⟨i, i.tags.map zeroOperand⟩

theorem zeroOperands_wellFormed (i : Instr) : (zeroOperands i).wellFormed = true := by
  simp [zeroOperands, AsmInstr.wellFormed, Function.comp_def, zeroOperand_tag, zeroOperand_wellFormed]

theorem zeroOperands_withinChainLimit (limit : Option Nat) (i : Instr) :
    (zeroOperands i).withinChainLimit limit = true := by
  simp [zeroOperands, AsmInstr.withinChainLimit, zeroOperand_indexBytes, chainAllowed_zero]

theorem flatMap_encodeOperand_zeroOperand (ts : List Tag) :
    (ts.map zeroOperand).flatMap encodeOperand =
      List.replicate (ts.map (fun t => if t = .bdisp16 then 2 else 1)).sum 0 := by
  induction ts with
  | nil => rfl
  | cons t ts ih =>
    rw [List.map_cons, List.flatMap_cons, ih, encodeOperand_zeroOperand, List.map_cons, List.sum_cons,
      List.replicate_add]

/-- Settles O28: the zero bytes are the encoding of the instruction with zero operands. -/
theorem zeroOperandBytesGiveTheMinimumLength : Obligations.ZeroOperandBytesGiveTheMinimumLength := by
  intro P src a i he hP n h
  have henc : encode (zeroOperands i) = encodeOpcode i.codepoint ++ List.replicate n 0 :=
    congrArg (encodeOpcode i.codepoint ++ ·) (flatMap_encodeOperand_zeroOperand i.tags)
  have hdec := decodeGivesBackEveryEncodedInstruction P src a (zeroOperands i) he hP (zeroOperands_wellFormed i)
    (zeroOperands_withinChainLimit _ i) (henc ▸ h)
  refine ⟨zeroOperands i, hdec.trans ?_, rfl⟩
  rw [henc, List.length_append, List.length_replicate, Nat.add_assoc]

/-! ### The length of a specifier -/

theorem length_encodeSpecifier (t : Tag) (sp : Specifier) :
    (encodeSpecifier t sp).length = specifierLength t.width sp := by
  induction sp with
  | indexed x base ih => simp only [encodeSpecifier, specifierLength, List.length_cons, ih, Nat.add_comm]
  | immediate v => simp only [encodeSpecifier, specifierLength, List.length_cons, length_leBytes, Nat.add_comm]
  | absolute a => simp only [encodeSpecifier, specifierLength, List.length_cons, length_leBytes]
  | displacement r d deferred | pcRelative d deferred =>
    cases d <;> simp only [encodeSpecifier, specifierLength, List.length_cons, encodeDisp, length_leBytes]
  | _ => rfl

/-- Register 0 under `n` index bytes: the chain that leaves a specifier no longest form (30_encoding R124). -/
def indexChain : Nat → Specifier
  | 0 => .register 0
  | n + 1 => .indexed 0 (indexChain n)

theorem indexChain_wellFormed (t : Tag) (n : Nat) : (indexChain n).wellFormed t = true := by
  induction n with
  | zero => rfl
  | succ n ih => exact ih

theorem specifierLength_indexChain (w n : Nat) : specifierLength w (indexChain n) = n + 1 := by
  induction n with
  | zero => rfl
  | succ n ih => rw [indexChain, specifierLength, ih, Nat.add_comm]

/-- Settles O27: the length class by class, and an index chain longer than any bound. -/
theorem specifierLengthsByClass : Obligations.SpecifierLengthsByClass := by
  refine ⟨fun t sp => ⟨length_encodeSpecifier t sp, encodeSpecifier_pos t sp⟩,
    fun t n => ⟨indexChain n, indexChain_wellFormed t n, ?_⟩⟩
  rw [length_encodeSpecifier, specifierLength_indexChain]
  exact Nat.lt_succ_self n

end Sys2Proof.Machine

/-! Proofs of the statements about the opcode field (40_opcode_fetch): its one or two bytes, its faults at the end of
memory, and the step of the engine on a codepoint with no descriptor. -/
namespace Sys2Proof.Machine

/-! ### The opcode field at the end of memory -/

theorem fetchOpcode_oob_first {src : Source} {a : Nat} (e : Byte) (h : src.size ≤ a) :
    fetchOpcode e src a = .error (.oob a 1) := by
  unfold fetchOpcode
  rw [Source.fetch_of_lt (Nat.lt_succ_of_le h)]

theorem fetchOpcode_oob_second {e : Byte} {src : Source} {a : Nat} (h : src.size = a + 1) (hb : src.byte a = e) :
    fetchOpcode e src a = .error (.oob (a + 1) 1) := by
  unfold fetchOpcode
  rw [Source.fetch_of_le h.ge]
  simp only [Source.le_one, ofNat_toNat_byte, if_pos hb]
  rw [Source.fetch_of_lt (Nat.lt_succ_of_le h.le)]

/-- Settles O29: the two widths of an opcode field, and the fault at either of its bytes. -/
theorem opcodeFieldIsOneByteOrEscapeAndOne : Obligations.OpcodeFieldIsOneByteOrEscapeAndOne :=
  fun e _ _ => ⟨fetchOpcode_one, fetchOpcode_two, fetchOpcode_oob_first e, fetchOpcode_oob_second⟩

/-! ### The opcode phase of a step -/

/-- A fault of the opcode fetch is taken with no codepoint (60_exceptions R301). -/
theorem fetchAndRun_of_opcode_fault {s : State} {f : DecodeFault}
    (h : fetchOpcode s.params.escapeByte s.source s.pc = .error f) :
    s.fetchAndRun = .next (s.takeFault s.pc ⟨f, none⟩) := by
  simp only [fetchAndRun_spec, h]

/-- A codepoint with no descriptor is presented without operands (40_opcode_fetch R175). -/
theorem fetchAndRun_of_no_descriptor {s : State} {cp : Codepoint} {cw q : Nat}
    (h : fetchOpcode s.params.escapeByte s.source s.pc = .ok (cp, cw, q)) (ht : s.params.optable cp = none) :
    s.fetchAndRun = .next (s.present q cp cw none []) := by
  simp only [fetchAndRun_spec, h, ht]

/-- A record with no mnemonic and no operands is the UNKNOWN record of its opcode field's bytes. -/
theorem recordOver_unknown (mem : Memory) (start cw : Nat) (cp : Codepoint) :
    recordOver mem start (start + cw) cp cw none [] =
      { start := start, stop := start + cw, bytes := mem.slice start cw, kind := .unknown, cp := cp, cw := cw,
        mnemonic := none, ops := [] } := by
  rw [recordOver, Nat.add_sub_cancel_left]
  rfl

/-- Settles O34: the opcode field alone is presented, and its end is its start and width. -/
theorem unknownCodepointEmitsItsOpcodeFieldAlone : Obligations.UnknownCodepointEmitsItsOpcodeFieldAlone := by
  intro s cp cw q hin hp hpc hf ht
  obtain ⟨rfl, -, hwidth⟩ := fetchOpcode_ok hf
  refine ⟨rfl, hwidth.imp And.left And.left, ?_⟩
  rw [step_fetch hin hp hpc, fetchAndRun_of_no_descriptor hf ht, ← recordOver_unknown]
  rfl

/-- Settles O35: the fault at the missing byte, taken before there is a codepoint. -/
theorem opcodeFetchPastMemoryTakesOob : Obligations.OpcodeFetchPastMemoryTakesOob := by
  intro s addr hin hp hpc hend
  have hfault : fetchOpcode s.params.escapeByte s.source s.pc = .error (.oob addr 1) := by
    rcases hend with ⟨hsize, rfl⟩ | ⟨hsize, hesc, rfl⟩
    · exact fetchOpcode_oob_first _ hsize
    · exact fetchOpcode_oob_second hsize hesc
  exact ⟨s.takeFault s.pc ⟨.oob addr 1, none⟩, (step_fetch hin hp hpc).trans (fetchAndRun_of_opcode_fault hfault),
    rfl, rfl, rfl, rfl, rfl, toNat_faultRegsOf_start _ _ hpc, toNat_faultAddrWord _, rfl, rfl, rfl⟩

end Sys2Proof.Machine

/-! Proofs of the statements about the operand modes (41_operand_modes): the record or fault of each mode byte and
branch displacement, and an index chain past its limit. -/
namespace Sys2Proof.Machine

/-! ### The mode byte as its two nibbles -/

/-- A byte whose mode nibble is `n`, with its register nibble. -/
theorem eq_modeByte_of_div {m : Byte} {n : BitVec 4} (h : m.toNat / 16 = n.toNat) :
    m = modeByte n (BitVec.ofNat 4 (m.toNat % 16)) := by
  apply BitVec.eq_of_toNat_eq
  rw [modeByte, toNat_append_eq_add, BitVec.toNat_ofNat, ← h]
  omega

theorem ofNat_nibble_ne_fifteen {k : Nat} (hlt : k < 16) (h : k ≠ 15) : BitVec.ofNat 4 k ≠ 15 := by
  intro he
  have hk : (BitVec.ofNat 4 k).toNat = 15 := by rw [he]; rfl
  rw [BitVec.toNat_ofNat] at hk
  omega

/-! ### A general operand by its specifier -/

section
variable {src : Source} {t : Tag} {a : Nat} (limit : Option Nat) (ht : t.isGeneral = true)
include ht

theorem resolveOperand_general :
    resolveOperand limit src t.code a =
      (decodeSpecifier limit src t (src.size - a) 0 a).map (fun x => (specifierRecord t a x.2 x.1, x.2)) := by
  unfold resolveOperand decodeOperand
  rw [Tag.ofCode_code]
  cases t with
  | bdisp8 | bdisp16 => cases ht
  | _ => simp only; cases decodeSpecifier limit src _ (src.size - a) 0 a <;> rfl

/-- A mode byte within memory leaves its decoding one byte of fuel. -/
theorem resolveOperand_within (ha : a < src.size) :
    resolveOperand limit src t.code a =
      (decodeSpecifier limit src t (src.size - (a + 1) + 1) 0 a).map
        (fun x => (specifierRecord t a x.2 x.1, x.2)) := by
  rw [resolveOperand_general limit ht, show src.size - a = src.size - (a + 1) + 1 by omega]

/-- A specifier without index bytes that stands encoded makes its record, whatever the limit. -/
theorem resolveOperand_specifier (sp : Specifier) (wf : sp.wellFormed t = true) (hx : sp.indexBytes = 0)
    (h : Holds src a (encodeSpecifier t sp)) :
    resolveOperand limit src t.code a =
      .ok (specifierRecord t a (a + (encodeSpecifier t sp).length) sp, a + (encodeSpecifier t sp).length) := by
  have hchain : chainAllowed limit (0 + sp.indexBytes) = true := by rw [hx]; exact chainAllowed_zero limit
  rw [resolveOperand_general limit ht, decodeSpecifier_encode limit src t sp _ 0 a wf hchain h le_rfl]
  rfl

end

/-! ### Specifiers of one byte -/

theorem shortLiteral_setWidth {m : Byte} (h : m.toNat ≤ 0x3F) : m = (BitVec.ofNat 6 m.toNat).setWidth 8 := by
  apply BitVec.eq_of_toNat_eq
  rw [BitVec.toNat_setWidth, BitVec.toNat_ofNat]
  omega

/-- Settles O17: the mode byte is the whole encoding of each of these specifiers. -/
theorem oneByteModesMakeTheirRecords : Obligations.OneByteModesMakeTheirRecords := by
  intro limit src t a ht ha m r h result
  have halone : ∀ {b : Byte}, src.byte a = b → Holds src a [b] := fun hb => holds_cons.2 ⟨ha, hb, holds_nil.2 ha⟩
  have hmode : ∀ n : BitVec 4, m / 16 = n.toNat → Holds src a [modeByte n r] := fun n hn =>
    halone (eq_modeByte_of_div hn)
  have hreg : m % 16 ≠ 15 → (r != 15) = true := fun hne =>
    bne_iff_ne.2 (ofNat_nibble_ne_fifteen (Nat.mod_lt _ (by decide)) hne)
  have hrec := resolveOperand_specifier (src := src) (a := a) limit ht
  refine ⟨fun hm => ?_, fun hm => ?_, fun hm => ?_, fun hm => ?_, fun hm => ?_, fun hm => ?_⟩
  · exact hrec (.shortLiteral (BitVec.ofNat 6 m)) rfl rfl (halone (shortLiteral_setWidth hm))
  · exact hrec (.register r) rfl rfl (hmode 5 (by simp only [BitVec.reduceToNat]; omega))
  · exact hrec (.registerDeferred r) rfl rfl (hmode 6 (by simp only [BitVec.reduceToNat]; omega))
  · exact hrec (.autodecrement r) rfl rfl (hmode 7 (by simp only [BitVec.reduceToNat]; omega))
  · exact hrec (.autoincrement r) (hreg (by omega)) rfl (hmode 8 (by simp only [BitVec.reduceToNat]; omega))
  · exact hrec (.autoincrementDeferred r) (hreg (by omega)) rfl (hmode 9 (by simp only [BitVec.reduceToNat]; omega))

/-! ### Literals -/

/-- Settles O18: each of the two mode bytes leaves one read to decide. -/
theorem immediateAndAbsoluteModesMakeTheirRecords : Obligations.ImmediateAndAbsoluteModesMakeTheirRecords := by
  intro limit src t a ht ha result
  have hresult : result = _ := resolveOperand_within limit ht ha
  rw [decodeSpecifier_succ _ _ _ _ _ _ ha] at hresult
  refine ⟨fun hb => ?_, fun hb => ?_⟩
  · rw [hb, show modeClass 0x8F = .immediate by decide] at hresult
    refine ⟨fun h => hresult.trans ?_, fun h => hresult.trans ?_⟩
    · rw [Source.fetch_of_le h]; rfl
    · rw [Source.fetch_of_lt h]; rfl
  · rw [hb, show modeClass 0x9F = .absolute by decide] at hresult
    refine ⟨fun h => hresult.trans ?_, fun h => hresult.trans ?_⟩
    · rw [Source.fetch_of_le (n := 4) (a := a + 1) h]; rfl
    · rw [Source.fetch_of_lt (n := 4) (a := a + 1) h]; rfl

/-! ### Displacement fields -/

/-- Sign extension of a field from its number is `sext_32` (00_scope R12). -/
theorem signExtend_ofNat_eq_sextWord {k v : Nat} (hk : 0 < k) (hv : v < 2 ^ k) :
    (BitVec.ofNat k v).signExtend 32 = sextWord k v := by
  have hhalf : 2 * v < 2 ^ k ↔ v < 2 ^ (k - 1) := by
    rw [← Nat.sub_add_cancel hk, Nat.pow_succ, Nat.add_sub_cancel]
    omega
  rw [BitVec.signExtend, sextWord, BitVec.toInt_eq_toNat_cond, BitVec.toNat_ofNat, Nat.mod_eq_of_lt hv]
  simp only [hhalf, Nat.cast_pow, Nat.cast_ofNat]

/-- A displacement field within memory is read with the field's sign-extended number. -/
theorem decodeDisp_of_le {src : Source} {w : DispWidth} {a : Nat} (h : a + w.bytes ≤ src.size) :
    ∃ d, decodeDisp src w a = .ok (d, a + w.bytes) ∧ d.width = w ∧
      d.sext = sextWord (8 * w.bytes) (src.le w.bytes a) := by
  have hlt := src.le_lt w.bytes a
  unfold decodeDisp
  rw [Source.fetch_of_le h]
  cases w with
  | byte => exact ⟨_, rfl, rfl, signExtend_ofNat_eq_sextWord (by decide) hlt⟩
  | word => exact ⟨_, rfl, rfl, signExtend_ofNat_eq_sextWord (by decide) hlt⟩
  | long => exact ⟨_, rfl, rfl, (BitVec.signExtend_eq _).symm.trans (signExtend_ofNat_eq_sextWord (by decide) hlt)⟩

theorem decodeDisp_of_lt {src : Source} {w : DispWidth} {a : Nat} (h : src.size < a + w.bytes) :
    decodeDisp src w a = .error (.oob a w.bytes) := by
  simp only [decodeDisp, Source.fetch_of_lt h]

/-- A target as one sum modulo 2^32. -/
theorem targetOf_eq_ofNat (stop : Nat) (d : Word) : targetOf stop d = BitVec.ofNat 32 (stop + d.toNat) := by
  rw [targetOf, BitVec.ofNat_add, BitVec.ofNat_toNat, BitVec.setWidth_eq]

/-- The displacement modes are the six nibbles of the encoder. -/
theorem mem_dispModes {mode : Nat × Nat × Bool} (h : mode ∈ dispModes) :
    ∃ w deferred, mode = ((dispNibble w deferred).toNat, w.bytes, deferred) := by
  simp only [dispModes, List.mem_cons, List.not_mem_nil, or_false] at h
  rcases h with rfl | rfl | rfl | rfl | rfl | rfl
  · exact ⟨.byte, false, rfl⟩
  · exact ⟨.byte, true, rfl⟩
  · exact ⟨.word, false, rfl⟩
  · exact ⟨.word, true, rfl⟩
  · exact ⟨.long, false, rfl⟩
  · exact ⟨.long, true, rfl⟩

section
variable {src : Source} {t : Tag} {a : Nat} {w : DispWidth} {deferred : Bool} {r : RegNo} (limit : Option Nat)
  (ht : t.isGeneral = true) (ha : a < src.size)
include ht ha

/-- A displacement field cut off faults whole, register 15 or another. -/
theorem resolveOperand_disp_cutOff (hb : src.byte a = modeByte (dispNibble w deferred) r)
    (h : src.size < a + 1 + w.bytes) : resolveOperand limit src t.code a = .error (.oob (a + 1) w.bytes) := by
  rw [resolveOperand_within limit ht ha, decodeSpecifier_succ _ _ _ _ _ _ ha, hb, modeClass_disp, dispClass]
  by_cases hr : r = 15
  · simp only [if_pos hr, decodeDisp_of_lt h]; rfl
  · simp only [if_neg hr, decodeDisp_of_lt h]; rfl

theorem resolveOperand_displacement (hb : src.byte a = modeByte (dispNibble w deferred) r) (hr : r ≠ 15)
    (h : a + 1 + w.bytes ≤ src.size) :
    resolveOperand limit src t.code a =
      .ok (.displacement ⟨t, a, a + 1 + w.bytes, t.width⟩ r w.bytes
        (sextWord (8 * w.bytes) (src.le w.bytes (a + 1))) deferred, a + 1 + w.bytes) := by
  obtain ⟨d, hd, rfl, hsext⟩ := decodeDisp_of_le h
  rw [resolveOperand_within limit ht ha, decodeSpecifier_succ _ _ _ _ _ _ ha, hb, modeClass_disp, dispClass]
  simp only [if_neg hr, hd, regNibble_modeByte, ← hsext]
  rfl

theorem resolveOperand_pcRelative (hb : src.byte a = modeByte (dispNibble w deferred) 15)
    (h : a + 1 + w.bytes ≤ src.size) :
    resolveOperand limit src t.code a =
      .ok (.pcRelative ⟨t, a, a + 1 + w.bytes, t.width⟩ w.bytes (sextWord (8 * w.bytes) (src.le w.bytes (a + 1)))
        deferred (BitVec.ofNat 32 (a + 1 + w.bytes + (sextWord (8 * w.bytes) (src.le w.bytes (a + 1))).toNat)),
        a + 1 + w.bytes) := by
  obtain ⟨d, hd, rfl, hsext⟩ := decodeDisp_of_le h
  rw [resolveOperand_within limit ht ha, decodeSpecifier_succ _ _ _ _ _ _ ha, hb, modeClass_disp, dispClass]
  simp only [if_true, hd, ← hsext, ← targetOf_eq_ofNat]
  rfl

end

/-- Settles O19. -/
theorem displacementModesMakeTheirRecords : Obligations.DisplacementModesMakeTheirRecords := by
  intro limit src t a ht ha mode hmode hnibble hreg
  obtain ⟨w, deferred, rfl⟩ := mem_dispModes hmode
  have hb := eq_modeByte_of_div hnibble
  have hr := ofNat_nibble_ne_fifteen (Nat.mod_lt _ (by decide)) hreg
  exact ⟨resolveOperand_displacement limit ht ha hb hr, resolveOperand_disp_cutOff limit ht ha hb⟩

/-- Settles O20. -/
theorem pcRelativeModesComputeTheirTarget : Obligations.PcRelativeModesComputeTheirTarget := by
  intro limit src t a ht ha mode hmode hnibble hreg
  obtain ⟨w, deferred, rfl⟩ := mem_dispModes hmode
  have hb := eq_modeByte_of_div hnibble
  rw [hreg] at hb
  exact ⟨resolveOperand_pcRelative limit ht ha hb, resolveOperand_disp_cutOff limit ht ha hb⟩

/-! ### Branch displacements -/

/-- Settles O22, for the two tags. -/
theorem branchDisplacementsComputeTheirTarget : Obligations.BranchDisplacementsComputeTheirTarget := by
  intro limit src a tw htw d
  have hlt := src.le_lt tw.2 a
  simp only [List.mem_cons, List.not_mem_nil, or_false] at htw
  refine ⟨fun h => ?_, fun h => ?_⟩
  · rcases htw with rfl | rfl
    · have hd : (BitVec.ofNat 8 (src.le 1 a)).signExtend 32 = d := signExtend_ofNat_eq_sextWord (by decide) hlt
      rw [← targetOf_eq_ofNat, ← hd, resolveOperand, decodeOperand, Tag.ofCode_code]
      simp only [Source.fetch_of_le h]
      rfl
    · have hd : (BitVec.ofNat 16 (src.le 2 a)).signExtend 32 = d := signExtend_ofNat_eq_sextWord (by decide) hlt
      rw [← targetOf_eq_ofNat, ← hd, resolveOperand, decodeOperand, Tag.ofCode_code]
      simp only [Source.fetch_of_le h]
      rfl
  · rcases htw with rfl | rfl <;>
      simp only [resolveOperand, decodeOperand, Tag.ofCode_code, Source.fetch_of_lt h]

/-! ### The mode byte and the tag code -/

/-- Settles O23: no byte is left for the mode byte, or none is read. -/
theorem modeByteAndTagCodeFaults : Obligations.ModeByteAndTagCodeFaults := by
  refine ⟨fun limit src t a ht ha => ?_, fun limit src c a hc => ?_⟩
  · rw [resolveOperand_general limit ht, Nat.sub_eq_zero_of_le ha]
    rfl
  · simp only [resolveOperand, decodeOperand, Tag.ofCode_eq_none.2 hc]

/-! ### Index chains -/

/-- Without a limit, the index bytes already read have no part in decoding. -/
theorem decodeSpecifier_unlimited_depth (src : Source) (t : Tag) (fuel depth depth' a : Nat) :
    decodeSpecifier none src t fuel depth a = decodeSpecifier none src t fuel depth' a := by
  induction fuel generalizing depth depth' a with
  | zero => rfl
  | succ fuel ih => simp only [decodeSpecifier, chainFull, Bool.false_eq_true, if_false, ih (depth + 1) (depth' + 1)]

/-- Settles O21: the base is decoded one index byte deeper, which no limit counts. -/
theorem indexedModeWrapsItsBase : Obligations.IndexedModeWrapsItsBase := by
  intro src t a ht ha hnibble
  have hb : src.byte a = modeByte 4 (BitVec.ofNat 4 ((src.byte a).toNat % 16)) := eq_modeByte_of_div hnibble
  have hclass : modeClass (src.byte a) = .indexed := by rw [hb]; exact modeClass_indexed _
  have hreg : regNibble (src.byte a) = BitVec.ofNat 4 ((src.byte a).toNat % 16) :=
    (congrArg regNibble hb).trans (regNibble_modeByte _ _)
  rw [resolveOperand_within none ht ha, resolveOperand_general none ht, decodeSpecifier_succ _ _ _ _ _ _ ha, hclass,
    hreg, decodeSpecifier_unlimited_depth src t _ (0 + 1) 0]
  cases decodeSpecifier none src t (src.size - (a + 1)) 0 (a + 1) <;> rfl

/-- A chain of more index bytes than the limit faults at the first one too many. -/
theorem decodeSpecifier_chain_past_limit (l : Nat) (src : Source) (t : Tag) (sp : Specifier) (fuel depth a : Nat)
    (hdepth : depth ≤ l) (hpast : l < depth + sp.indexBytes) (h : Holds src a (encodeSpecifier t sp))
    (hfuel : src.size - a ≤ fuel) :
    decodeSpecifier (some l) src t fuel depth a = .error (.indexChain (a + (l - depth))) := by
  induction sp generalizing fuel depth a with
  | indexed x base ih =>
    obtain ⟨ha, hb, hbase⟩ := holds_cons.1 h
    obtain ⟨fuel, rfl⟩ : ∃ k, fuel = k + 1 := ⟨fuel - 1, by omega⟩
    rw [decodeSpecifier_succ _ _ _ _ _ _ ha, hb, modeClass_indexed]
    by_cases hfull : l ≤ depth
    · have hzero : l - depth = 0 := Nat.sub_eq_zero_of_le hfull
      simp only [chainFull, hfull, hzero, decide_true, if_true, Nat.add_zero]
    · rw [Specifier.indexBytes] at hpast
      have haddr : a + 1 + (l - (depth + 1)) = a + (l - depth) := by omega
      have hrec := ih fuel (depth + 1) (a + 1) (by omega) (by omega) hbase (by omega)
      simp only [chainFull, hfull, decide_false, Bool.false_eq_true, if_false, hrec, haddr]
  | _ => simp only [Specifier.indexBytes] at hpast; omega

/-- The same for an operand, whose tag is then a general one. -/
theorem decodeOperand_chain_past_limit {l : Nat} {src : Source} {o : Operand} {a : Nat} (wf : o.wellFormed = true)
    (hpast : l < o.indexBytes) (h : Holds src a (encodeOperand o)) :
    decodeOperand (some l) src o.tag.code a = .error (.indexChain (a + l)) := by
  cases o with
  | branch8 | branch16 => exact absurd hpast (Nat.not_lt_zero l)
  | general t sp =>
    simp only [Operand.wellFormed, Bool.and_eq_true] at wf
    obtain ⟨hgeneral, -⟩ := wf
    have hfault := decodeSpecifier_chain_past_limit l src t sp (src.size - a) 0 a (Nat.zero_le l)
      (by rw [Nat.zero_add]; exact hpast) h le_rfl
    simp only [decodeOperand, Operand.tag, Tag.ofCode_code]
    cases t with
    | bdisp8 | bdisp16 => cases hgeneral
    | _ => simp only [hfault, Nat.sub_zero]

/-- Operands within the limit leave the fault to the one after them. -/
theorem decodeOperands_chain_past_limit {l : Nat} {src : Source} {pre post : List Operand} {o : Operand} {a : Nat}
    (wf : (pre ++ o :: post).all Operand.wellFormed = true)
    (ch : pre.all (fun q => chainAllowed (some l) q.indexBytes) = true) (hpast : l < o.indexBytes)
    (h : Holds src a ((pre ++ o :: post).flatMap encodeOperand)) :
    decodeOperands (some l) src (((pre ++ o :: post).map Operand.tag).map Tag.code) a =
      .error (.indexChain (a + (pre.flatMap encodeOperand).length + l)) := by
  simp only [List.all_append, List.all_cons, Bool.and_eq_true] at wf
  obtain ⟨wfpre, wfo, -⟩ := wf
  rw [List.flatMap_append, List.flatMap_cons, holds_append, holds_append] at h
  obtain ⟨hpre, ho, -⟩ := h
  simp only [List.map_append, List.map_cons]
  refine decodeOperands_append_error (decodeOperands_encode (some l) src pre a wfpre ch hpre) ?_
  simp only [decodeOperands, decodeOperand_chain_past_limit wfo hpast ho]

/-- Settles O16: the opcode field and the operands before the chain are decoded, then the chain faults. -/
theorem indexChainPastTheLimitTakesItsFault : Obligations.IndexChainPastTheLimitTakesItsFault := by
  intro i pre o post s l wf hl ch hpast h hsize
  simp only [AsmInstr.wellFormed, Bool.and_eq_true, decide_eq_true_eq] at wf
  obtain ⟨htags, wfops⟩ := wf
  obtain ⟨hop, hops⟩ := holds_append.1 h
  have hck : checkOpcode s.params.memSize s.pc (opcodeWidth i.codepoint) =
      .ok (s.pc + (encodeOpcode i.codepoint).length) := by
    rw [length_encodeOpcode]
    exact checkOpcode_of_le (opcodeWidth_one_or_two _) (length_encodeOpcode i.codepoint ▸ hop.1)
  have hdec := decodeOperands_chain_past_limit wfops ch hpast hops
  rw [htags, ← hl] at hdec
  have haddr : s.pc + (encodeOpcode i.codepoint).length + (pre.flatMap encodeOperand).length + l <
      s.params.memSize := by
    rcases decodeOperands_error hdec with ⟨_, _, -, -, hf, -⟩ | ⟨_, _, hf, -⟩ | ⟨_, hf, -, -, hlt⟩
    · cases hf
    · cases hf
    · cases hf; exact hlt
  have hstart : (BitVec.ofNat 32 s.pc).toNat = s.pc := by
    rw [BitVec.toNat_ofNat, Nat.mod_eq_of_lt (by omega)]
  have hrun := runRow_of_operand_fault (cp := i.codepoint) (d := ⟨i.mnemonic, i.tags.map Tag.code⟩) hck hdec
  exact ⟨_, (exec_eq i s).trans (congrArg _ hrun), rfl, rfl, toNat_faultAddrWord _ (haddr.trans_le hsize), rfl, hstart,
    rfl, rfl, rfl, rfl, rfl, rfl⟩

end Sys2Proof.Machine

/-! Proofs of the statements about the decode loop (42_decode_loop): one step in FETCH_OPCODE, the record it makes, the
run from START to DONE or FAULT, and the record held in EMIT. -/
namespace Sys2Proof.Machine

/-! ### A step in FETCH_OPCODE -/

/-- A decoded record is presented as it is: the control state is the record's own. -/
theorem present_of_decoded {s : State} {r : Record} (h : decodeInstruction s.params s.mem s.pc = .ok r) :
    s.present r.stop r.cp r.cw (s.params.optable r.cp) r.ops =
      { s with
        pc := r.stop, phase := .emit, start := s.pc, cp := r.cp, cw := r.cw, desc := s.params.optable r.cp,
        k := r.ops.length, ops := r.ops, out := some r } := by
  rw [State.present, ← decodeInstruction_eq_recordOver h]

theorem step_fetch_of_decode {s : State} {result : Except InstrFault Record} (hin : s.inputs = [])
    (hp : s.phase = .fetchOpcode) (hpc : s.pc < s.csegSize.toNat)
    (hd : decodeInstruction s.params s.mem s.pc = result) : step s = .next (s.afterDecode result) := by
  rw [step_fetch hin hp hpc, fetchAndRun_eq_afterDecode, hd]

/-- Settles O37: exec's meanings and the table-driven function are the same step. -/
theorem stepIsDecodeInstruction : Obligations.StepIsDecodeInstruction := by
  intro s hin hp hpc
  rw [step_fetch_of_decode hin hp hpc rfl]
  cases hd : decodeInstruction s.params s.mem s.pc with
  | ok r => exact congrArg Host.Outcome.next (present_of_decoded hd)
  | error f => rfl

theorem fetchAndRun_known {s : State} {i : Instr} {p : Nat}
    (h : decodeOpcode s.params s.source s.pc = .ok (.known i, p)) : s.fetchAndRun = exec i s := by
  rw [State.fetchAndRun, h]

/-- Settles O32: the opcode phase alone selects the instruction. -/
theorem stepRunsTheDecodedInstruction : Obligations.StepRunsTheDecodedInstruction := by
  intro s hin hp hpc
  have hstep : ∀ i p, decodeOpcode s.params s.source s.pc = .ok (.known i, p) → step s = exec i s :=
    fun i p h => (step_fetch hin hp hpc).trans (fetchAndRun_known h)
  refine ⟨hstep, fun x q h => ?_⟩
  obtain ⟨p, hop, -⟩ := decodeInstr_known h
  exact hstep x.instr p hop

/-! ### The termination test -/

/-- Bits 1 and 0 of STATUS are STATE (10_state R50). -/
theorem statusWord_and_three (s : State) : s.statusWord &&& 3 = s.phase.stateCode.setWidth 32 := by
  apply BitVec.eq_of_toNat_eq
  have hmask : (s.statusWord &&& 3).toNat = s.statusWord.toNat % 4 := by
    rw [BitVec.toNat_and]
    exact Nat.and_two_pow_sub_one_eq_mod s.statusWord.toNat 2
  have hstate := s.phase.stateCode.isLt
  rw [hmask, toNat_statusWord, BitVec.toNat_setWidth_of_le (by decide)]
  omega

/-- The run ends where FETCH_OPCODE is entered at the end of the code segment or past it (42_decode_loop R241). -/
theorem step_end {s : State} (hin : s.inputs = []) (hp : s.phase = .fetchOpcode) (hend : s.csegSize.toNat ≤ s.pc) :
    step s = .next { s with phase := .done } := by
  rw [step_engine hin, State.engineStep, hp]
  exact if_pos hend

/-- Of the steps of a running engine, the termination test alone leads to DONE. -/
theorem engineStep_to_done {s t : State} (hrun : s.phase.running = true) (h : s.engineStep = .next t)
    (ht : t.phase = .done) : s.phase = .fetchOpcode ∧ s.csegSize.toNat ≤ s.pc := by
  rcases engineStep_cases h with ⟨hstop, -⟩ | ⟨hp, hend, -⟩ | ⟨-, -, hfetch⟩ | ⟨hp, d, -, hops⟩ | ⟨hp, hemit⟩
  · rcases hstop with hp | hp | hp <;> simp [hp, Phase.running] at hrun
  · exact ⟨hp, hend⟩
  · rw [fetchAndRun_eq_afterDecode, Host.Outcome.next.injEq] at hfetch
    subst hfetch
    cases hd : decodeInstruction s.params s.mem s.pc <;> simp [hd, State.afterDecode] at ht
  · rcases hops with ⟨-, rfl⟩ | ⟨c, -, ⟨f, -, rfl⟩ | ⟨r, p, -, rfl⟩⟩
    · cases ht
    · cases ht
    · simp [hp] at ht
  · rcases hemit with ⟨-, rfl⟩ | ⟨r, -, ⟨-, rfl⟩ | ⟨-, rfl⟩⟩
    · simp [hp] at ht
    · cases ht
    · simp [hp] at ht

/-- No input ends a run in DONE: reset leads to IDLE, and any other one leaves the phase. -/
theorem serve_phase_ne_done {s : State} (e : Input) (hrun : s.phase.running = true) : (s.serve e).phase ≠ .done := by
  by_cases he : e = .reset
  · subst he
    simp [State.serve]
  · obtain ⟨b, r, hserve⟩ := serve_running hrun he
    intro hdone
    rw [hserve] at hdone
    have hp : s.phase = .done := hdone
    simp [hp, Phase.running] at hrun

/-- Settles O33: an empty code segment is the first clause at its end 0. -/
theorem terminationTestIsTheOnlyWayToDone : Obligations.TerminationTestIsTheOnlyWayToDone := by
  refine ⟨fun s hin hp hend => ⟨step_end hin hp hend, statusWord_and_three _⟩,
    fun s hin hp hpc => step_fetch hin hp hpc, fun s t hrun h ht => ?_, fun s t hin hp hcseg h => ?_⟩
  · rcases step_cases h with ⟨-, heng⟩ | ⟨e, rest, -, ⟨-, heng⟩ | ⟨-, rfl⟩⟩
    · exact engineStep_to_done hrun heng ht
    · exact engineStep_to_done (s := { s with inputs := rest }) hrun heng ht
    · exact absurd ht (serve_phase_ne_done (s := { s with inputs := rest }) e hrun)
  · have hend : s.csegSize.toNat ≤ s.pc := by rw [hcseg]; exact Nat.zero_le _
    rw [step_end hin hp hend, Host.Outcome.next.injEq] at h
    subst h
    exact ⟨rfl, rfl, rfl⟩

/-! ### The operands and bytes of a record -/

theorem specifierRecord_head (t : Tag) (start stop : Nat) (sp : Specifier) :
    (specifierRecord t start stop sp).head = operandHead t start stop := by
  cases sp <;> rfl

theorem operandRecord_head (start stop : Nat) (o : Operand) :
    (operandRecord start stop o).head = operandHead o.tag start stop := by
  cases o with
  | general t sp => exact specifierRecord_head t start stop sp
  | branch8 d => rfl
  | branch16 d => rfl

/-- The operand records of operands that stand one after another follow one another (42_decode_loop R252). -/
theorem opsContiguous_operandRecordsAt (a : Nat) (os : List Operand) :
    OpsContiguous a (operandRecordsAt a os) (a + (os.flatMap encodeOperand).length) := by
  induction os generalizing a with
  | nil => rfl
  | cons o os ih =>
    rw [List.flatMap_cons, List.length_append, ← Nat.add_assoc, operandRecordsAt, OpsContiguous, operandRecord_head]
    exact ⟨rfl, Nat.lt_add_of_pos_right (encodeOperand_pos o), ih _⟩

/-- Operand records that follow one another take the sum of their lengths. -/
theorem OpsContiguous.stop_eq_add_sum {a b : Nat} {rs : List OperandRecord} (h : OpsContiguous a rs b) :
    b = a + (rs.map (fun o => o.head.stop - o.head.start)).sum := by
  induction rs generalizing a with
  | nil => exact h.symm
  | cons r rs ih =>
    obtain ⟨hstart, hlt, hrest⟩ := h
    have hb := ih hrest
    rw [List.map_cons, List.sum_cons]
    omega

/-- The operands of a decoded record stand from its opcode field to its end. -/
theorem decodeInstruction_opsContiguous {P : Params} {mem : Memory} {p : Nat} {r : Record}
    (h : decodeInstruction P mem p = .ok r) : r.start = p ∧ OpsContiguous (p + r.cw) r.ops r.stop := by
  obtain ⟨cp, cw, q, hf, hr⟩ := decodeInstruction_ok h
  obtain ⟨rfl, hq, -⟩ := fetchOpcode_ok hf
  rcases hr with ⟨-, rfl⟩ | ⟨d, os, e, -, hd, rfl⟩
  · exact ⟨rfl, rfl⟩
  · obtain ⟨-, -, rfl, -⟩ := decodeOperands_ok hq hd
    exact ⟨rfl, opsContiguous_operandRecordsAt (p + cw) os⟩

/-- Settles O38: the sum follows from contiguity. -/
theorem recordsAreContiguous : Obligations.RecordsAreContiguous := by
  intro P mem p r h
  obtain ⟨rfl, hops⟩ := decodeInstruction_opsContiguous h
  exact ⟨rfl, hops.stop_eq_add_sum, hops⟩

theorem decodeInstruction_bytes {P : Params} {mem : Memory} {p : Nat} {r : Record}
    (h : decodeInstruction P mem p = .ok r) : r.bytes = mem.slice p (r.stop - p) :=
  congrArg Record.bytes (decodeInstruction_eq_recordOver h)

/-- Settles O39: the bytes are a slice of MEM, from the start to an end past it. -/
theorem recordBytesAreTheBytesFetched : Obligations.RecordBytesAreTheBytesFetched := by
  intro P mem p r h
  obtain ⟨hlt, hle⟩ := decodeInstruction_stop h
  rw [decodeInstruction_bytes h]
  exact ⟨hlt, hle, mem.length_slice p _, fun j hj => mem.getD_slice p _ j hj⟩

/-! ### A run, round by round -/

section
variable {P : Params} {mem : Memory} {cseg p : Nat} (n : Nat)

theorem runFrom_end (h : cseg ≤ p) : runFrom P mem cseg (n + 1) p = ([], .done) := if_pos h

theorem runFrom_fault {f : InstrFault} (h : p < cseg) (hd : decodeInstruction P mem p = .error f) :
    runFrom P mem cseg (n + 1) p = ([], .fault p f) := by
  rw [runFrom, if_neg (Nat.not_le.2 h), hd]

theorem runFrom_record {r : Record} (h : p < cseg) (hd : decodeInstruction P mem p = .ok r) :
    runFrom P mem cseg (n + 1) p =
      (r :: (runFrom P mem cseg n r.stop).1, (runFrom P mem cseg n r.stop).2) := by
  rw [runFrom, if_neg (Nat.not_le.2 h), hd]

end

/-- One round more than the bytes left below both ends finishes a run, since every record takes at least one byte
(42_decode_loop R249). -/
theorem runFrom_finishes {P : Params} {mem : Memory} {cseg : Nat} {n p : Nat} (h : min cseg P.memSize - p < n) :
    (runFrom P mem cseg n p).2 ≠ .unfinished ∧
      (runFrom P mem cseg n p).1.length ≤ min cseg P.memSize - p := by
  induction n generalizing p with
  | zero => exact absurd h (Nat.not_lt_zero _)
  | succ n ih =>
    by_cases hend : cseg ≤ p
    · simp [runFrom_end n hend]
    · rw [Nat.not_le] at hend
      cases hd : decodeInstruction P mem p with
      | error f => simp [runFrom_fault n hend hd]
      | ok r =>
        obtain ⟨hlt, hle⟩ := decodeInstruction_stop hd
        obtain ⟨hfin, hlen⟩ := ih (p := r.stop) (by omega)
        rw [runFrom_record n hend hd]
        refine ⟨hfin, ?_⟩
        rw [List.length_cons]
        omega

/-- Settles O41: `run` allows one round more than there are bytes. -/
theorem everyRunEnds : Obligations.EveryRunEnds :=
  fun _ _ _ => runFrom_finishes (Nat.lt_succ_self _)

/-! ### The record held in EMIT -/

theorem step_emit {s : State} {r : Record} (hin : s.inputs = []) (hp : s.phase = .emit) (hr : s.out = some r) :
    step s = .next (if s.ready then s.accept r else s) := by
  rw [step_engine hin, State.engineStep, hp]
  simp only [State.emitStep, hr]

/-- Settles O43: a step of the engine, or an input that leaves a running block's phase, record, `pc` and MEM. -/
theorem emitHoldsTheRecordUntilAccepted : Obligations.EmitHoldsTheRecordUntilAccepted := by
  intro s r hp hr
  refine ⟨fun hin hready => ?_, fun hin hready => ?_, fun e rest t hne hnr hin h => ?_⟩
  · rw [step_emit hin hp hr, if_neg (by simp [hready])]
  · rw [step_emit hin hp hr, if_pos hready]
    rfl
  · rcases step_cases h with ⟨hnil, -⟩ | ⟨e', rest', hin', hcases⟩
    · simp [hin] at hnil
    · obtain ⟨rfl, rfl⟩ : e = e' ∧ rest = rest' := by simpa [hin] using hin'
      rcases hcases with ⟨he, -⟩ | ⟨-, rfl⟩
      · exact absurd he hne
      · obtain ⟨b, c, hserve⟩ := serve_running (s := { s with inputs := rest }) (by rw [hp]; rfl) hnr
        rw [hserve]
        exact ⟨hp, hr, rfl, rfl⟩

/-! ### START -/

theorem hostWrite_control_start {s : State} {v : BitVec 32} (hv : v.getLsbD 0 = true)
    (hstop : s.phase.running = false) : s.hostWrite .control v = s.startRun :=
  if_pos (by rw [hv, hstop]; rfl)

theorem hostWrite_control_running {s : State} (v : BitVec 32) (hrun : s.phase.running = true) :
    s.hostWrite .control v = s :=
  if_neg (by simp [hrun])

/-- FAULT_INFO reads 0 once START has cleared the fault registers (42_decode_loop R240). -/
theorem faultInfoWord_startRun (s : State) : s.startRun.faultInfoWord = 0 :=
  BitVec.eq_of_toNat_eq (by rw [toNat_faultInfoWord]; rfl)

/-- Settles O50. -/
theorem startBeginsARunAtAddressZero : Obligations.StartBeginsARunAtAddressZero := by
  refine fun s v hv => ⟨hostWrite_control_running v, fun hstop => ?_⟩
  rw [hostWrite_control_start hv hstop]
  exact ⟨rfl, rfl, rfl, rfl, rfl, faultInfoWord_startRun s, rfl, rfl, statusWord_and_three _, rfl, rfl, rfl, rfl, rfl⟩

/-! ### The machine's run is the function `Run` -/

/-- How a run that began in `s` has ended in `t`: DONE with the fault registers of the start, or FAULT. -/
def EndsAs (s t : State) : RunEnd → Prop
  | .done => t.phase = .done ∧ t.faultRegs = s.faultRegs
  | .fault start f => t.phase = .fault ∧ t.faultRegs = faultRegsOf s.freeFaultAddr start f
  | .unfinished => False

/-- `t` is reached from `s` by the run `result`: its records accepted after those of `s`, its end, and MEM, CSEG_SIZE and
the parameters as they were (42_decode_loop R249, R250). -/
def RanTo (s t : State) (result : List Record × RunEnd) : Prop :=
  t.accepted = s.accepted ++ result.1 ∧ t.mem = s.mem ∧ t.csegSize = s.csegSize ∧ t.params = s.params ∧
    EndsAs s t result.2

/-- The engine about to fetch, with a consumer that accepts and nothing else from outside. -/
structure Fetching (s : State) : Prop where
  inputs : s.inputs = []
  phase  : s.phase = .fetchOpcode
  ready  : s.ready = true

/-- The state after the decoded record `r` has been presented and accepted. -/
def State.afterRecord (s : State) (r : Record) : State :=
  (s.present r.stop r.cp r.cw (s.params.optable r.cp) r.ops).accept r

theorem Fetching.afterRecord {s : State} (hs : Fetching s) (r : Record) : Fetching (s.afterRecord r) :=
  ⟨hs.inputs, rfl, hs.ready⟩

/-- A record takes two steps of the machine: the instruction, and the hand-over (log entry 3). -/
theorem stepN_record {s : State} {r : Record} (n : Nat) (hs : Fetching s) (hpc : s.pc < s.csegSize.toNat)
    (hd : decodeInstruction s.params s.mem s.pc = .ok r) : stepN (n + 2) s = stepN n (s.afterRecord r) := by
  have hfetch : step s = .next (s.present r.stop r.cp r.cw (s.params.optable r.cp) r.ops) :=
    step_fetch_of_decode hs.inputs hs.phase hpc hd
  have hout : (s.present r.stop r.cp r.cw (s.params.optable r.cp) r.ops).out = some r := by
    rw [present_of_decoded hd]
  have haccept := step_emit (s := s.present r.stop r.cp r.cw (s.params.optable r.cp) r.ops) hs.inputs rfl hout
  rw [State.present_ready, if_pos hs.ready] at haccept
  rw [stepN_succ hfetch, stepN_succ haccept]
  rfl

/-- What follows the record `r` from the state after it follows `s` with `r` in front. -/
theorem RanTo.cons {s t : State} {r : Record} {result : List Record × RunEnd} (h : RanTo (s.afterRecord r) t result) :
    RanTo s t (r :: result.1, result.2) := by
  obtain ⟨hacc, hmem, hcseg, hparams, hend⟩ := h
  refine ⟨by simpa [State.afterRecord] using hacc, hmem, hcseg, hparams, ?_⟩
  cases he : result.2 <;> rw [he] at hend <;> exact hend

/-- From FETCH_OPCODE the machine takes two steps for each record of a finished run and one to end it. -/
theorem stepN_runFrom {n : Nat} {s : State} (hs : Fetching s)
    (hfin : (runFrom s.params s.mem s.csegSize.toNat n s.pc).2 ≠ .unfinished) :
    ∃ t, stepN (2 * (runFrom s.params s.mem s.csegSize.toNat n s.pc).1.length + 1) s = .next t ∧
      RanTo s t (runFrom s.params s.mem s.csegSize.toNat n s.pc) := by
  induction n generalizing s with
  | zero => exact absurd rfl hfin
  | succ n ih =>
    by_cases hend : s.csegSize.toNat ≤ s.pc
    · rw [runFrom_end n hend]
      exact ⟨_, stepN_succ (step_end hs.inputs hs.phase hend), (List.append_nil _).symm, rfl, rfl, rfl, rfl, rfl⟩
    · rw [Nat.not_le] at hend
      cases hd : decodeInstruction s.params s.mem s.pc with
      | error f =>
        have hfault : step s = .next (s.takeFault s.pc f) := step_fetch_of_decode hs.inputs hs.phase hend hd
        rw [runFrom_fault n hend hd]
        exact ⟨_, stepN_succ hfault, (List.append_nil _).symm, rfl, rfl, rfl, rfl, rfl⟩
      | ok r =>
        rw [runFrom_record n hend hd] at hfin ⊢
        obtain ⟨t, hrun, hran⟩ := ih (hs.afterRecord r) hfin
        exact ⟨t, (stepN_record _ hs hend hd).trans hrun, hran.cons⟩

/-- START, served as the one input of a block that is not RUNNING. -/
theorem step_start {s : State} (hstop : s.phase.running = false) (hin : s.inputs = [.write .control 1]) :
    step s = .next ({ s with inputs := [] } : State).startRun := by
  rw [step, State.blockStep, hin]
  exact congrArg _ (hostWrite_control_start (s := { s with inputs := [] }) (by decide) hstop)

/-- Settles O40: one step for START, then the run from address 0, which `run` follows to its end. -/
theorem machineRunIsTheRunFunction : Obligations.MachineRunIsTheRunFunction := by
  intro s hstop hready hin
  obtain ⟨hfin, hlen⟩ := everyRunEnds s.params s.mem s.csegSize.toNat
  obtain ⟨t, hrun, hacc, hmem, hcseg, hparams, hend⟩ :=
    stepN_runFrom (s := ({ s with inputs := [] } : State).startRun) ⟨rfl, rfl, hready⟩ hfin
  refine ⟨_, t, ?_, (stepN_succ (step_start hstop hin)).trans hrun, hacc, hmem, hcseg, hparams, ?_⟩
  · exact Nat.add_le_add_right (Nat.mul_le_mul_left 2 hlen) 2
  · have hrunEnd : EndsAs _ t (run s.params s.mem s.csegSize.toNat).2 := hend
    cases he : (run s.params s.mem s.csegSize.toNat).2 <;> rw [he] at hrunEnd <;> exact hrunEnd

end Sys2Proof.Machine

/-! Proofs of the statements about the listing view (43_listing): the digits, the names and the rows a record's text is
made of, each tied to the library's digits, padding and joining, and then the listing's lines. -/
namespace Sys2Proof.Machine

/-! ### Hexadecimal and decimal digits (43_listing R271) -/

theorem hexDigit_eq_digitChar {d : Nat} (h : d < 16) : hexDigit d = d.digitChar := by
  interval_cases d <;> rfl

@[simp] theorem length_hexFixed (k v : Nat) : (hexFixed k v).length = k := by
  induction k generalizing v with
  | zero => rfl
  | succ k ih => simp [hexFixed, ih]

theorem hexFixed_zero (k : Nat) : hexFixed k 0 = List.replicate k '0' := by
  induction k with
  | zero => rfl
  | succ k ih => rw [hexFixed, Nat.zero_div, ih, List.replicate_succ']; rfl

/-- The fixed digits of a number that fits are its own digits with zeros in front. -/
theorem hexFixed_eq_leftpad {k v : Nat} (hk : 0 < k) (hv : v < 16 ^ k) :
    hexFixed k v = (Nat.toDigits 16 v).leftpad k '0' := by
  induction k generalizing v with
  | zero => exact absurd hk (Nat.lt_irrefl 0)
  | succ k ih =>
    rw [hexFixed, hexDigit_eq_digitChar (Nat.mod_lt v (by decide)), List.leftpad]
    by_cases hlt : v < 16
    · rw [Nat.toDigits_of_lt_base hlt, Nat.div_eq_of_lt hlt, Nat.mod_eq_of_lt hlt, hexFixed_zero]
      rfl
    · have hge : 16 ≤ v := Nat.le_of_not_lt hlt
      have hpos : 0 < k := Nat.pos_of_ne_zero fun h0 => by subst h0; omega
      have hdiv : v / 16 < 16 ^ k := Nat.div_lt_of_lt_mul (by rwa [← Nat.pow_succ'])
      rw [Nat.toDigits_of_base_le (by decide) hge, ih hpos hdiv, List.leftpad, List.length_append,
        List.length_singleton, Nat.add_sub_add_right, List.append_assoc]

/-- The digits of a positive number have no leading zero. -/
theorem head?_toDigits_ne_zero {v : Nat} (hv : 0 < v) : (Nat.toDigits 16 v).head? ≠ some '0' := by
  induction v using Nat.strongRecOn with
  | ind v ih =>
    by_cases hlt : v < 16
    · simpa [Nat.toDigits_of_lt_base hlt] using Nat.ne_of_gt hv
    · have hge : 16 ≤ v := Nat.le_of_not_lt hlt
      rw [Nat.toDigits_of_base_le (by decide) hge, List.head?_append_of_ne_nil _ Nat.toDigits_ne_nil]
      exact ih (v / 16) (Nat.div_lt_self hv (by decide)) (Nat.div_pos hge (by decide))

theorem dropZeros_of_head?_ne {cs : List Char} (h : cs.head? ≠ some '0') : dropZeros cs = cs := by
  match cs with
  | [] | [c] => rfl
  | c :: d :: cs => rw [dropZeros, if_neg fun hc => h (congrArg some hc)]; simp

theorem dropZeros_replicate_append (n : Nat) {cs : List Char} (h : cs ≠ []) :
    dropZeros (List.replicate n '0' ++ cs) = dropZeros cs := by
  induction n with
  | zero => rfl
  | succ n ih => rw [List.replicate_succ, List.cons_append, dropZeros, if_pos rfl, ih]; simp [h]

theorem dropZeros_toDigits (v : Nat) : dropZeros (Nat.toDigits 16 v) = Nat.toDigits 16 v := by
  rcases Nat.eq_zero_or_pos v with rfl | hv
  · rfl
  · exact dropZeros_of_head?_ne (head?_toDigits_ne_zero hv)

theorem h32_eq_toDigits (v : Word) : h32 v = ['0', 'x'] ++ Nat.toDigits 16 v.toNat := by
  rw [h32, hexFixed_eq_leftpad (by decide) v.isLt, List.leftpad, dropZeros_replicate_append _ Nat.toDigits_ne_nil,
    dropZeros_toDigits]
  rfl

theorem dec6_eq_toDigits (v : BitVec 6) : dec6 v = Nat.toDigits 10 v.toNat := by
  have hv : v.toNat < 64 := v.isLt
  unfold dec6
  split
  · next hlt => rw [Nat.toDigits_of_lt_base hlt, hexDigit_eq_digitChar (by omega)]
  · next hge =>
    rw [Nat.toDigits_of_base_le (by decide) (Nat.le_of_not_lt hge), Nat.toDigits_of_lt_base (by omega),
      hexDigit_eq_digitChar (by omega), hexDigit_eq_digitChar (by omega)]
    rfl

/-! ### The text of operands and of records (43_listing R272 to R287) -/

/-- REG of each of the sixteen registers (10_state R43). -/
theorem regName_eq (r : RegNo) : regName r =
    if r = 14 then ['s', 'p'] else if r = 15 then ['p', 'c'] else 'r' :: Nat.toDigits 10 r.toNat := by
  decide +revert

theorem floatSuffix_eq (t : Tag) : floatSuffix t =
    if t = .fFloat then [':', 'f'] else if t = .dFloat then [':', 'd'] else if t = .gFloat then [':', 'g']
    else if t = .hFloat then [':', 'h'] else [] := by
  cases t <;> rfl

@[simp] theorem length_hpad (v k : Nat) : (hpad v k).length = k + 2 := by simp [hpad]

/-- An immediate that fits its width is padded to two digits for each byte. -/
theorem hpad_eq_leftpad {v w : Nat} (hw : 1 ≤ w) (hv : v < 256 ^ w) :
    hpad v (2 * w) = ['0', 'x'] ++ (Nat.toDigits 16 v).leftpad (2 * w) '0' := by
  have hfits : v < 16 ^ (2 * w) := by rwa [Nat.pow_mul]
  rw [hpad, hexFixed_eq_leftpad (by omega) hfits]
  rfl

theorem joinOperands_eq_intercalate (os : List OperandRecord) :
    joinOperands os = List.intercalate [','] (os.map renderOperand) := by
  induction os with
  | nil => rfl
  | cons o os ih =>
    cases os with
    | nil => exact List.intercalate_singleton.symm
    | cons p os => simp [joinOperands, ih, List.intercalate_cons_cons]

theorem renderInstr_unknown {r : Record} (h : r.mnemonic = none) :
    renderInstr r = ".word ".toList ++ hpad r.cp.toNat (2 * r.cw) := by
  rw [renderInstr, h]

theorem renderInstr_no_operands {r : Record} {m : String} (h : r.mnemonic = some m) (hops : r.ops = []) :
    renderInstr r = m.toList.map lowerChar := by
  rw [renderInstr, h, hops]

theorem renderInstr_operands {r : Record} {m : String} (h : r.mnemonic = some m) (hops : r.ops ≠ []) :
    renderInstr r = m.toList.map lowerChar ++ ' ' :: joinOperands r.ops := by
  obtain ⟨o, os, hcons⟩ := List.exists_cons_of_ne_nil hops
  rw [renderInstr, h, hcons]

/-- Settles O59, from the three forms of a record's text and the joining of its operands. -/
theorem listingTextOfRecords : Obligations.ListingTextOfRecords := by
  intro r
  refine ⟨fun h => ?_, fun m => renderInstr_no_operands, fun m h hops => ?_⟩
  · have htext := renderInstr_unknown h
    refine ⟨htext, ?_⟩
    have hword : ".word ".toList.length = 6 := by decide
    rw [htext, List.length_append, length_hpad, hword]
    omega
  · rw [renderInstr_operands h hops, joinOperands_eq_intercalate, List.append_assoc, List.singleton_append]

/-- Settles O60: each class by its rule, with the digits, names and suffixes read off the lemmas above. -/
theorem listingTextOfOperands : Obligations.ListingTextOfOperands := by
  unfold Obligations.ListingTextOfOperands
  intro hex reg suffix h r b a d n
  have hhex : ∀ v : Word, h32 v = hex v.toNat := h32_eq_toDigits
  have hreg : ∀ r, regName r = reg r := regName_eq
  have hsuffix : ∀ t, floatSuffix t = suffix t := floatSuffix_eq
  refine ⟨fun v => ?shortLiteral, ?indexed, hreg r, ?deferred, ?decrement, ?increment,
    fun v w hw hv => ?immediate, ?incrementDeferred, ?absolute, ?displacement, ?displacementDeferred,
    hhex a, ?relativeDeferred, hhex a⟩
  case shortLiteral => simp [renderOperand, dec6_eq_toDigits, hsuffix]
  case immediate => simp [renderOperand, hpad_eq_leftpad hw hv, List.leftpad, hsuffix]
  all_goals simp [renderOperand, parenReg, deferMark, hreg, hhex]

/-! ### The bytes of a row (43_listing R288, R290) -/

theorem renderBytes_cons_cons (b c : Byte) (bs : List Byte) :
    renderBytes (b :: c :: bs) = hexFixed 2 b.toNat ++ ' ' :: renderBytes (c :: bs) := by
  simp [renderBytes]

theorem renderBytes_eq_intercalate (bs : List Byte) :
    renderBytes bs = List.intercalate [' '] (bs.map fun b => (Nat.toDigits 16 b.toNat).leftpad 2 '0') := by
  have hbyte : ∀ b : Byte, hexFixed 2 b.toNat = (Nat.toDigits 16 b.toNat).leftpad 2 '0' :=
    fun b => hexFixed_eq_leftpad (by decide) b.isLt
  induction bs with
  | nil => rfl
  | cons b bs ih =>
    cases bs with
    | nil => exact (hbyte b).trans List.intercalate_singleton.symm
    | cons c bs => simp [renderBytes_cons_cons, ih, hbyte, List.intercalate_cons_cons]

theorem length_renderBytes (bs : List Byte) : (renderBytes bs).length = 3 * bs.length - 1 := by
  induction bs with
  | nil => rfl
  | cons b bs ih =>
    cases bs with
    | nil => exact length_hexFixed 2 _
    | cons c bs =>
      simp only [renderBytes_cons_cons, List.length_append, List.length_cons, length_hexFixed, ih]
      omega

theorem length_renderBytes_take_four_le (bs : List Byte) : (renderBytes (bs.take 4)).length ≤ 11 := by
  have hfour : (bs.take 4).length ≤ 4 := List.length_take_le 4 bs
  rw [length_renderBytes]
  omega

theorem length_rowsOf4 (bs : List Byte) : (rowsOf4 bs).length = (bs.length + 3) / 4 := by
  induction bs using rowsOf4.induct with
  | case1 a b c d rest ih => simp only [rowsOf4, List.length_cons, ih]; omega
  | case2 => rfl
  | case3 short hlong hne =>
    match short with
    | [] => exact absurd rfl hne
    | [_] | [_, _] | [_, _, _] => simp [rowsOf4]
    | a :: b :: c :: d :: rest => exact absurd rfl (hlong a b c d rest)

theorem rowsOf4_of_ne_nil {bs : List Byte} (h : bs ≠ []) : rowsOf4 bs = bs.take 4 :: rowsOf4 (bs.drop 4) := by
  match bs with
  | [] => exact absurd rfl h
  | [_] | [_, _] | [_, _, _] | _ :: _ :: _ :: _ :: _ => rfl

/-- Row `j` holds the four bytes from `4 * j` on, or as many of them as there are. -/
theorem getElem?_rowsOf4 {bs : List Byte} {j : Nat} (h : 4 * j < bs.length) :
    (rowsOf4 bs)[j]? = some ((bs.drop (4 * j)).take 4) := by
  induction j generalizing bs with
  | zero => rw [rowsOf4_of_ne_nil (List.ne_nil_of_length_pos h)]; rfl
  | succ j ih =>
    have hrest : 4 * j < (bs.drop 4).length := by rw [List.length_drop]; omega
    rw [rowsOf4_of_ne_nil (List.ne_nil_of_length_pos (Nat.zero_lt_of_lt h)), List.getElem?_cons_succ, ih hrest,
      List.drop_drop, Nat.mul_succ, Nat.add_comm 4]

/-! ### The lines of a record and of a run (43_listing R289 to R293) -/

@[simp] theorem length_rowPrefix (a : Nat) : (rowPrefix a).length = 10 := by simp [rowPrefix]

theorem rowPrefix_eq_leftpad {a : Nat} (h : a < 2 ^ 32) :
    rowPrefix a = (Nat.toDigits 16 a).leftpad 8 '0' ++ [':', ' '] := by
  rw [rowPrefix, hexFixed_eq_leftpad (by decide) h]

@[simp] theorem length_laterRows (a : Nat) (rows : List (List Byte)) : (laterRows a rows).length = rows.length := by
  induction rows generalizing a with
  | nil => rfl
  | cons row rows ih => simp [laterRows, ih]

theorem getElem?_laterRows (a j : Nat) (rows : List (List Byte)) :
    (laterRows a rows)[j]? = rows[j]?.map fun row => rowPrefix (a + 4 * j) ++ renderBytes row := by
  induction rows generalizing a j with
  | nil => rfl
  | cons row rows ih =>
    cases j with
    | zero => rfl
    | succ j =>
      rw [laterRows, List.getElem?_cons_succ, List.getElem?_cons_succ, ih, Nat.add_assoc, Nat.mul_succ,
        Nat.add_comm 4]

/-- The line of row 0 of a record (43_listing R291). -/
def firstLine (r : Record) : List Char :=
  rowPrefix r.start ++ padRight 11 (renderBytes (r.bytes.take 4)) ++ [' ', ' '] ++ renderInstr r

theorem listingLines_of_ne_nil {r : Record} (h : r.bytes ≠ []) :
    listingLines r = firstLine r :: laterRows (r.start + 4) (rowsOf4 (r.bytes.drop 4)) := by
  rw [listingLines, rowsOf4_of_ne_nil h, firstLine, List.append_assoc _ [' ', ' ']]
  rfl

theorem length_listingLines {r : Record} (h : r.bytes ≠ []) :
    (listingLines r).length = (r.bytes.length + 3) / 4 := by
  rw [listingLines_of_ne_nil h, List.length_cons, length_laterRows, ← length_rowsOf4, rowsOf4_of_ne_nil h,
    List.length_cons]

theorem length_padRight {n : Nat} {cs : List Char} (h : cs.length ≤ n) : (padRight n cs).length = n := by
  rw [padRight, List.length_append, List.length_replicate, Nat.add_sub_cancel' h]

/-- Address, padded bytes and spaces take 23 characters: the text stands in one column. -/
theorem drop_firstLine (r : Record) : (firstLine r).drop 23 = renderInstr r := by
  have hbytes : (padRight 11 (renderBytes (r.bytes.take 4))).length = 11 :=
    length_padRight (length_renderBytes_take_four_le r.bytes)
  exact List.drop_left' (by simp [hbytes])

theorem getElem?_listingLines_succ {r : Record} {j : Nat} (h : 4 * (j + 1) < r.bytes.length) :
    (listingLines r)[j + 1]? =
      some (rowPrefix (r.start + 4 * (j + 1)) ++ renderBytes ((r.bytes.drop (4 * (j + 1))).take 4)) := by
  have hne : r.bytes ≠ [] := List.ne_nil_of_length_pos (Nat.zero_lt_of_lt h)
  have hrow : (rowsOf4 (r.bytes.drop 4))[j]? = some ((r.bytes.drop (4 * (j + 1))).take 4) := by
    rw [← getElem?_rowsOf4 h, rowsOf4_of_ne_nil hne, List.getElem?_cons_succ]
  rw [listingLines_of_ne_nil hne, List.getElem?_cons_succ, getElem?_laterRows, hrow, Nat.add_assoc, Nat.mul_succ,
    Nat.add_comm 4]
  rfl

/-- Settles O58: row 0 is `firstLine`, the later rows come from `laterRows`, and the columns are `renderBytes`. -/
theorem listingRowsAndTextColumn : Obligations.ListingRowsAndTextColumn := by
  unfold Obligations.ListingRowsAndTextColumn
  intro digits columns
  have hcolumns : ∀ r j, columns r j = renderBytes ((r.bytes.drop (4 * j)).take 4) :=
    fun r j => (renderBytes_eq_intercalate _).symm
  have hfits : ∀ r j, (columns r j).length ≤ 11 :=
    fun r j => (hcolumns r j).symm ▸ length_renderBytes_take_four_le _
  refine ⟨fun a => ⟨length_rowPrefix a, rowPrefix_eq_leftpad⟩, fun r hne => ?record, fun r => ?strings,
    fun rs => String.toList_ofList⟩
  case record =>
    have hfirst : (listingLines r)[0]? = some (firstLine r) := by rw [listingLines_of_ne_nil hne]; rfl
    refine ⟨length_listingLines hne, hfits r 0, ?row0, ?column, fun j hpos hj => ⟨?later, hfits r j⟩⟩
    case row0 => simp [hfirst, firstLine, hcolumns, padRight]
    case column => rw [hfirst, Option.map_some, drop_firstLine]
    case later =>
      obtain ⟨i, rfl⟩ := Nat.exists_eq_succ_of_ne_zero (Nat.ne_of_gt hpos)
      rw [hcolumns]
      exact getElem?_listingLines_succ (by omega)
  case strings => simp [listing, Function.comp_def]

end Sys2Proof.Machine

/-! Proofs of the statements about the rows of the opcode table (44_opcodes_00_7f): an instruction that stands whole in
memory is emitted, and the rows written out from the spec are the rows of the model's table. -/
namespace Sys2Proof.Machine

/-! ### An instruction that stands whole in memory -/

/-- An instruction's row of the model's table, in the form of a written row. -/
def tableRow (i : Instr) : WrittenRow := ⟨i, encodeOpcode i.codepoint, i.codepoint, i.mnemonic, i.tags⟩

/-- Where MEM holds an instruction at `pc`, presenting it leads to its emitted state: the record's bytes are its encoding
(42_decode_loop R251). -/
theorem present_eq_emittedState {s : State} {i : Instr} {ops : List Operand} (htags : ops.map Operand.tag = i.tags)
    (h : Holds s.source s.pc (encode ⟨i, ops⟩)) :
    s.present (s.pc + (encode ⟨i, ops⟩).length) i.codepoint (encodeOpcode i.codepoint).length
        (some ⟨i.mnemonic, i.tags.map Tag.code⟩)
        (operandRecordsAt (s.pc + (encodeOpcode i.codepoint).length) ops) =
      emittedState s (tableRow i) ops := by
  obtain ⟨-, hbytes⟩ := h
  have hslice : s.mem.slice s.pc (encode ⟨i, ops⟩).length = encode ⟨i, ops⟩ := Memory.slice_eq _ _ _ hbytes
  have hk : ops.length = i.tags.length := by rw [← htags, List.length_map]
  simp only [State.present, recordOver, Nat.add_sub_cancel_left, hslice, length_operandRecordsAt, hk]
  rfl

/-- The meaning of an instruction whose opcode field and operands stand encoded at `pc` decodes them as they were
encoded. -/
theorem runInstr_encode {s : State} {i : Instr} {ops : List Operand}
    (hfit : OperandsFit s.params.indexChainLimit i.tags ops) (h : Holds s.source s.pc (encode ⟨i, ops⟩)) :
    s.runInstr i.codepoint (opcodeWidth i.codepoint) i.mnemonic i.tags = emittedState s (tableRow i) ops := by
  obtain ⟨htags, wf, ch⟩ := hfit
  obtain ⟨⟨hopcode, -⟩, hops⟩ := holds_append.1 h
  rw [length_encodeOpcode] at hopcode hops
  have hck : checkOpcode s.params.memSize s.pc (opcodeWidth i.codepoint) = _ :=
    checkOpcode_of_le (opcodeWidth_one_or_two _) hopcode
  have hres := resolveOperands_encode s.params.indexChainLimit s.source ops _ wf ch hops
  rw [htags] at hres
  rw [← present_eq_emittedState htags h]
  simp only [State.runInstr, State.runRow, hck, hres, encode, List.length_append, length_encodeOpcode, Nat.add_assoc]

/-- The row of every instruction completes. -/
theorem rowCompletes_tableRow (i : Instr) : RowCompletes (tableRow i) := fun s _ hfit h =>
  (exec_eq i s).trans (congrArg _ (runInstr_encode hfit h))

/-! ### The rows written out from the spec -/

/-- Rows written out complete when each is its instruction's row of the table: opcode bytes, codepoint, mnemonic and
tags. -/
theorem rowCompletes_of_eq_tableRow {rows : List WrittenRow} (h : rows = (rows.map WrittenRow.instr).map tableRow) :
    ∀ r ∈ rows, RowCompletes r := by
  rw [h]
  simp only [List.forall_mem_map]
  exact fun r _ => rowCompletes_tableRow r.instr

/-- Settles O1. -/
theorem systemReturnAndByteBranchRowsEmitTheirRecords :
    Obligations.SystemReturnAndByteBranchRowsEmitTheirRecords :=
  rowCompletes_of_eq_tableRow rfl

/-- Settles O2. -/
theorem decimalAndQueueRowsEmitTheirRecords : Obligations.DecimalAndQueueRowsEmitTheirRecords :=
  rowCompletes_of_eq_tableRow rfl

/-- Settles O3. -/
theorem packedDecimalStringAndWordBranchRowsEmitTheirRecords :
    Obligations.PackedDecimalStringAndWordBranchRowsEmitTheirRecords :=
  rowCompletes_of_eq_tableRow rfl

/-- Settles O4. -/
theorem fFloatingRowsEmitTheirRecords : Obligations.FFloatingRowsEmitTheirRecords :=
  rowCompletes_of_eq_tableRow rfl

/-- Settles O5. -/
theorem dFloatingRowsEmitTheirRecords : Obligations.DFloatingRowsEmitTheirRecords :=
  rowCompletes_of_eq_tableRow rfl

/-- Settles O6. -/
theorem shiftQuadwordAndOctawordRowsEmitTheirRecords :
    Obligations.ShiftQuadwordAndOctawordRowsEmitTheirRecords :=
  rowCompletes_of_eq_tableRow rfl

/-! ### Opcode words -/

/-- Settles O30, by running the decoder on each word. -/
theorem writtenOpcodesDecodeToTheirRows : Obligations.WrittenOpcodesDecodeToTheirRows :=
  ⟨rfl, rfl, rfl, rfl, rfl, rfl, rfl, rfl, rfl⟩

end Sys2Proof.Machine

/-! Proofs of the statements about the upper half of the one-byte opcodes (45_opcodes_80_ff): each written row is its
instruction's row of the model's table, and every row of that table completes. -/
namespace Sys2Proof.Machine

/-- Settles O7: the written rows R1128 to R1159 are the table's rows, each of which completes. -/
theorem byteIntegerRowsEmitTheirRecords : Obligations.ByteIntegerRowsEmitTheirRecords :=
  rowCompletes_of_eq_tableRow rfl

/-- Settles O8: the written rows R1160 to R1191 are the table's rows, each of which completes. -/
theorem wordIntegerRowsEmitTheirRecords : Obligations.WordIntegerRowsEmitTheirRecords :=
  rowCompletes_of_eq_tableRow rfl

/-- Settles O9: the written rows R1192 to R1223 are the table's rows, each of which completes. -/
theorem longwordIntegerRowsEmitTheirRecords : Obligations.LongwordIntegerRowsEmitTheirRecords :=
  rowCompletes_of_eq_tableRow rfl

/-- Settles O10: the written rows R1224 to R1252 are the table's rows, each of which completes. -/
theorem bitFieldLoopAndCallRowsEmitTheirRecords : Obligations.BitFieldLoopAndCallRowsEmitTheirRecords :=
  rowCompletes_of_eq_tableRow rfl

end Sys2Proof.Machine

/-! Proofs of the statements about the escaped floating rows (46_opcodes_fd): a written row, its escape byte 0xFD and
second opcode byte included, is its instruction's row of the model's table, and every row of that table completes. -/
namespace Sys2Proof.Machine

/-- Settles O11: the written rows R2050, R2051, R2152, R2153, R2246 and R2247 are the table's rows, each of which
completes. -/
theorem crossFormatFloatingRowsEmitTheirRecords : Obligations.CrossFormatFloatingRowsEmitTheirRecords :=
  rowCompletes_of_eq_tableRow rfl

/-- Settles O12: the written rows R2064 to R2086 are the table's rows, each of which completes. -/
theorem gFloatingRowsEmitTheirRecords : Obligations.GFloatingRowsEmitTheirRecords :=
  rowCompletes_of_eq_tableRow rfl

/-- Settles O13: the written rows R2096 to R2118 are the table's rows, each of which completes. -/
theorem hFloatingRowsEmitTheirRecords : Obligations.HFloatingRowsEmitTheirRecords :=
  rowCompletes_of_eq_tableRow rfl

end Sys2Proof.Machine

/-! Proofs of the statements about the exceptions (60_exceptions): a fault is a next state and no stop of the machine,
it is entered precisely, and an instruction of the table takes no fault but F_OOB and F_INDEX_CHAIN. -/
namespace Sys2Proof.Machine

/-! ### No stop of the machine -/

/-- The run in progress is never left between two operands of an instruction (log entry 3). -/
theorem State.Inv.phase_ne_decodeOperands {s : State} (hs : s.Inv) : s.phase ≠ .decodeOperands :=
  fun hp => not_runInv_decodeOperands hp hs.runInv

/-- DECODE_OPERANDS is the one phase in which the engine can stop (log entry 12). -/
theorem engineStep_next_of_ne_decodeOperands {s : State} (hp : s.phase ≠ .decodeOperands) :
    ∃ t, s.engineStep = .next t := by
  unfold State.engineStep
  cases h : s.phase with
  | idle | done | fault => exact ⟨s, rfl⟩
  | fetchOpcode =>
    by_cases hend : s.csegSize.toNat ≤ s.pc
    · exact ⟨_, if_pos hend⟩
    · exact ⟨_, (if_neg hend).trans (fetchAndRun_eq_afterDecode s)⟩
  | decodeOperands => exact absurd h hp
  | emit => exact ⟨s.emitStep, rfl⟩

/-- An input is always taken, so a step stops only where the engine does. -/
theorem step_next_of_ne_decodeOperands {s : State} (hp : s.phase ≠ .decodeOperands) :
    ∃ t, step s = .next t := by
  unfold step State.blockStep
  split
  · exact engineStep_next_of_ne_decodeOperands hp
  · exact engineStep_next_of_ne_decodeOperands hp
  · exact ⟨_, rfl⟩

theorem State.Inv.step_next {s : State} (hs : s.Inv) : ∃ t, step s = .next t ∧ t.Inv := by
  obtain ⟨t, ht⟩ := step_next_of_ne_decodeOperands hs.phase_ne_decodeOperands
  exact ⟨t, ht, everyStepKeepsTheInvariant s t hs ht⟩

/-- A run goes on for as long as each state that satisfies `I` has a next state that satisfies `I`. -/
theorem stepN_next_of_invariant {I : State → Prop} (hI : ∀ s, I s → ∃ t, step s = .next t ∧ I t) (n : Nat)
    {s : State} (hs : I s) : ∃ t, stepN n s = .next t ∧ I t := by
  induction n generalizing s with
  | zero => exact ⟨s, rfl, hs⟩
  | succ n ih =>
    obtain ⟨u, hu, hIu⟩ := hI s hs
    rw [stepN_succ hu]
    exact ih hIu

/-- Settles O57: progress with the invariant, then induction on the number of steps. -/
theorem noRunFromResetEverStops : Obligations.NoRunFromResetEverStops :=
  ⟨fun _ hs => hs.step_next,
    fun _ ins n hP => stepN_next_of_invariant (fun _ hs => hs.step_next) n ((State.Inv.initial hP).inputs ins)⟩

/-! ### The outcomes of an instruction -/

theorem toNat_tagCode_lt (t : Tag) : t.code.toNat < 11 := by cases t <;> decide

/-- Operands under the tags of an instruction never raise F_BAD_TAG (60_exceptions R303). -/
theorem decodeOperands_tagCodes_error {limit : Option Nat} {src : Source} {tags : List Tag} {a : Nat} {f : DecodeFault}
    (h : decodeOperands limit src (tags.map Tag.code) a = .error f) : OperandFault limit src a f := by
  rcases decodeOperands_error h with ⟨addr, c, hmem, hc, -⟩ | hf
  · obtain ⟨t, -, rfl⟩ := List.mem_map.1 hmem
    exact absurd hc (Nat.not_le.2 (toNat_tagCode_lt t))
  · exact hf

theorem checkOpcode_operandFault {src : Source} {a cw : Nat} {f : DecodeFault} (limit : Option Nat)
    (h : checkOpcode src.size a cw = .error f) : OperandFault limit src a f := by
  rcases checkOpcode_error h with ⟨rfl, hle⟩ | ⟨rfl, heq, -⟩
  · exact .inl ⟨a, 1, rfl, le_rfl, id, by omega, by decide⟩
  · exact .inl ⟨a + 1, 1, rfl, by omega, fun _ => heq.ge, by omega, by decide⟩

/-- Operands decoded under the codes of a tag list have its tags. -/
theorem decodeOperands_tags {limit : Option Nat} {src : Source} {tags : List Tag} {a q : Nat} {os : List Operand}
    (ha : a ≤ src.size) (h : decodeOperands limit src (tags.map Tag.code) a = .ok (os, q)) :
    os.map Operand.tag = tags := by
  obtain ⟨hcodes, -⟩ := decodeOperands_ok ha h
  refine List.map_injective_iff.2 tagCode_injective ?_
  rw [List.map_map]
  exact hcodes

/-- An instruction of the table is presented, with one operand for each of its tags, or takes a fault of valid tags
(60_exceptions R302 to R304). -/
theorem runInstr_cases (s : State) (cp : Codepoint) (cw : Nat) (m : String) (tags : List Tag) :
    (∃ p os q, s.pc < q ∧ q ≤ s.params.memSize ∧ os.map Operand.tag = tags ∧
      s.runInstr cp cw m tags = s.present q cp cw (some ⟨m, tags.map Tag.code⟩) (operandRecordsAt p os)) ∨
    (∃ f, OperandFault s.params.indexChainLimit s.source s.pc f.fault ∧
      s.runInstr cp cw m tags = s.takeFault s.pc f) := by
  rcases runRow_cases s cp cw ⟨m, tags.map Tag.code⟩ with
    ⟨p, os, q, hck, hd, hrun⟩ | ⟨f, hck, hrun⟩ | ⟨p, f, hck, hd, hrun⟩
  · obtain ⟨hlt, hle, -⟩ := checkOpcode_ok hck
    obtain ⟨-, -, rfl, ⟨hend, -⟩, -⟩ := decodeOperands_ok (src := s.source) hle hd
    exact .inl ⟨p, os, _, Nat.lt_add_right _ hlt, hend, decodeOperands_tags (src := s.source) hle hd, hrun⟩
  · exact .inr ⟨⟨f, none⟩, checkOpcode_operandFault (src := s.source) _ hck, hrun⟩
  · obtain ⟨hlt, hle, -⟩ := checkOpcode_ok hck
    exact .inr ⟨⟨f, some cp⟩, (decodeOperands_tagCodes_error hd).mono hlt.le hle, hrun⟩

/-- The causes of the faults of valid tags (60_exceptions R301, R305). -/
theorem OperandFault.cause {limit : Option Nat} {src : Source} {a : Nat} {f : InstrFault} (free : BitVec 32)
    (start : Nat) (h : OperandFault limit src a f.fault) :
    (faultRegsOf free start f).cause = .oob ∨ (faultRegsOf free start f).cause = .indexChain ∧ limit ≠ none := by
  obtain ⟨g, cp⟩ := f
  rcases h with ⟨addr, n, rfl, -⟩ | ⟨addr, rfl, hlimit, -⟩
  · exact .inl rfl
  · exact .inr ⟨rfl, hlimit⟩

/-- Settles O14: every instruction is the shared operation with its own row, which presents or faults. -/
theorem instructionsOnlyEmitOrTakeOobOrIndexChain : Obligations.InstructionsOnlyEmitOrTakeOobOrIndexChain := by
  intro i s
  refine ⟨_, exec_eq i s, ?_⟩
  rcases runInstr_cases s i.codepoint (opcodeWidth i.codepoint) i.mnemonic i.tags with
    ⟨p, os, q, hlt, hle, htags, hrun⟩ | ⟨f, hf, hrun⟩
  · have hops : (operandRecordsAt p os).map (fun o => o.head.tag) = i.tags := (tags_operandRecordsAt p os).trans htags
    rw [hrun]
    exact ⟨rfl, rfl, rfl, rfl, rfl, rfl, rfl, rfl, .inl ⟨rfl, rfl, rfl, rfl, hlt, hle, _, rfl, rfl, rfl, rfl, rfl,
      (length_encodeOpcode _).symm, rfl, hops, s.mem.length_slice _ _, fun j hj => s.mem.getD_slice _ _ j hj⟩⟩
  · rw [hrun]
    exact ⟨rfl, rfl, rfl, rfl, rfl, rfl, rfl, rfl, .inr ⟨rfl, rfl, hf.cause _ _⟩⟩

/-! ### Entering FAULT -/

/-- The engine enters FAULT by the fault of decoding the instruction at `pc`, and in no other way (42_decode_loop
R247). -/
theorem engineStep_to_fault {s t : State} (hops : s.phase ≠ .decodeOperands) (hfault : s.phase ≠ .fault)
    (h : s.engineStep = .next t) (ht : t.phase = .fault) :
    s.phase = .fetchOpcode ∧ s.pc < s.csegSize.toNat ∧
      ∃ f, decodeInstruction s.params s.mem s.pc = .error f ∧ t = s.takeFault s.pc f := by
  rcases engineStep_cases h with ⟨-, rfl⟩ | ⟨-, -, rfl⟩ | ⟨hp, hpc, hfetch⟩ | ⟨hp, -⟩ | ⟨hp, hemit⟩
  · exact absurd ht hfault
  · cases ht
  · rw [fetchAndRun_eq_afterDecode, Host.Outcome.next.injEq] at hfetch
    subst hfetch
    cases hd : decodeInstruction s.params s.mem s.pc with
    | ok r => simp [hd, State.afterDecode] at ht
    | error f => exact ⟨hp, hpc, f, rfl, rfl⟩
  · exact absurd hp hops
  · rcases hemit with ⟨-, rfl⟩ | ⟨r, -, ⟨-, rfl⟩ | ⟨-, rfl⟩⟩
    · exact absurd ht hfault
    · cases ht
    · exact absurd ht hfault

/-- Settles O48: the step takes the fault of decoding at `pc`, where no record is held. -/
theorem faultEntryIsPrecise : Obligations.FaultEntryIsPrecise := by
  intro s t hs hin hfault h ht
  rw [step_engine hin] at h
  obtain ⟨hp, hpc, f, hd, rfl⟩ := engineStep_to_fault hs.phase_ne_decodeOperands hfault h ht
  obtain ⟨hout, -⟩ := (runInv_fetchOpcode hp).1 hs.runInv
  exact ⟨hout, rfl, rfl, rfl, rfl, faultRegsOf_cause_ne_none _ _ _,
    faultRegsOf_legal _ _ (decodeInstruction_error_raisable hd), toNat_faultRegsOf_start _ _ hpc,
    statusWord_and_three _⟩

end Sys2Proof.Machine

/-! Proofs of the statements about reset and hazards (70_reset_and_hazards): outside a run the engine waits for the
host. -/
namespace Sys2Proof.Machine

/-- Outside a run the engine fetches nothing and emits nothing: IDLE before a START (70_reset_and_hazards R341), DONE
after the termination test (42_decode_loop R241), FAULT after a fault (60_exceptions R308). -/
theorem engineStep_stopped {s : State} (h : s.phase = .idle ∨ s.phase = .done ∨ s.phase = .fault) :
    s.engineStep = .next s := by
  rcases h with hidle | hdone | hfault
  · rw [State.engineStep, hidle]
  · rw [State.engineStep, hdone]
  · rw [State.engineStep, hfault]

/-- Settles O44: with no input pending the step is the engine's, which leaves a stopped state as it is. -/
theorem idleDoneAndFaultWaitForTheHost : Obligations.IdleDoneAndFaultWaitForTheHost :=
  fun _ hin hstopped => (step_engine hin).trans (engineStep_stopped hstopped)

end Sys2Proof.Machine
